-- ==== Sys2Proof/Word.lean ====
section
/-!
DEFINITION. The widths of the machine: the nibble, which is the unit of everything (00_scope.md R9), the 20-bit
address of a nibble (20_memory.md R60) and the 64-bit working register (10_state.md R20).
-/

namespace Sys2Proof

/-- A nibble: 4 bits, one hexadecimal digit, the content of one address (00_scope.md R9). -/
abbrev Nibble := BitVec 4

/-- An address: 20 bits, naming one nibble of the one address space (20_memory.md R60). -/
abbrev Addr := BitVec 20

/-- The content of a working register A, B, C, D or of a scratch register R0 to R4: 16 nibbles (10_state.md R20, R24). -/
abbrev Reg64 := BitVec 64

end Sys2Proof
end

