-- ==== Sys2Proof/Syntax.lean ====
section
/-!
DEFINITION. The instructions: one constructor per row of spec/opcode_table.json, in the table's order. Operands are
decoded values, never raw nibbles: a digit, a field, an offset, an address, the suffix of a test.
-/

namespace Sys2Proof

/-- The nine field symbols of the field table (10_state.md R21). -/
inductive Field where
  /-- P: the nibble register P points to. -/
  | p
  /-- WP: from the nibble register P points to down to nibble 0. -/
  | wp
  /-- XS: exponent sign. -/
  | xs
  /-- X: exponent. -/
  | x
  /-- S: sign. -/
  | s
  /-- M: mantissa. -/
  | m
  /-- B: byte. -/
  | b
  /-- W: word, the whole register. -/
  | w
  /-- A: address. -/
  | a
  deriving DecidableEq, Repr

/-- What stands after a test's own nibbles and belongs to it (30_encoding.md R98, R99). -/
inductive Suffix where
  /-- `GOYES label`: jump if the test is true, by a signed offset (40_jumps.md R142). -/
  | goyes (off : BitVec 8)
  /-- `RTNYES`: return if the test is true (41_subroutines.md R161). -/
  | rtnyes
  deriving DecidableEq, Repr

/-- One instruction form of spec/opcode_table.json. The doc comment of a constructor gives the source's mnemonic, the encoding
(first nibble leftmost) and the rule of the meaning. A register test on field A (`…onA`) and on another field (`…onF`)
are two rows. `goyes` and `rtnyes` are the table's two SUFFIX rows: no instruction of their own (30_encoding.md R99). -/
inductive Instr where
  /-- `RTNSXM`, 00; R157. -/
  | rtnsxm
  /-- `RTN`, 01; R154. -/
  | rtn
  /-- `RTNSC`, 02; R155. -/
  | rtnsc
  /-- `RTNCC`, 03; R156. -/
  | rtncc
  /-- `CLRST`, 08; R255. -/
  | clrst
  /-- `C=ST`, 09; R253. -/
  | cFromSt
  /-- `ST=C`, 0A; R254. -/
  | stFromC
  /-- `CSTEX`, 0B; R252. -/
  | cstex
  /-- `P=P+1`, 0C; R232. -/
  | pInc
  /-- `P=P-1`, 0D; R233. -/
  | pDec
  /-- `RTI`, 0F; R158. -/
  | rti
  /-- `P= n`, 2n; R231. -/
  | pSet (n : Nibble)
  /-- `GOC label`, 4yy; R132. -/
  | goc (off : BitVec 8)
  /-- `RTNC`, 400; R159. -/
  | rtnc
  /-- `GONC label`, 5yy; R133. -/
  | gonc (off : BitVec 8)
  /-- `RTNNC`, 500; R160. -/
  | rtnnc
  /-- `GOTO label`, 6ddd; R131. -/
  | goto (off : BitVec 12)
  /-- `GOSUB label`, 7ddd; R151. -/
  | gosub (off : BitVec 12)
  /-- `C+P+1`, 809; R234. -/
  | cAddP1
  /-- `C=P n`, 80Cn; R237. -/
  | cFromP (n : Nibble)
  /-- `P=C n`, 80Dn; R236. -/
  | pFromC (n : Nibble)
  /-- `CPEX n`, 80Fn; R235. -/
  | cpex (n : Nibble)
  /-- `ABIT=0 n`, 8084n; R241. -/
  | abit0 (n : Nibble)
  /-- `ABIT=1 n`, 8085n; R242. -/
  | abit1 (n : Nibble)
  /-- `?ABIT=0 n`, 8086nyy; R220. -/
  | tstAbit0 (n : Nibble) (y : Suffix)
  /-- `?ABIT=1 n`, 8087nyy; R221. -/
  | tstAbit1 (n : Nibble) (y : Suffix)
  /-- `CBIT=0 n`, 8088n; R243. -/
  | cbit0 (n : Nibble)
  /-- `CBIT=1 n`, 8089n; R244. -/
  | cbit1 (n : Nibble)
  /-- `?CBIT=0 n`, 808Anyy; R222. -/
  | tstCbit0 (n : Nibble) (y : Suffix)
  /-- `?CBIT=1 n`, 808Bnyy; R223. -/
  | tstCbit1 (n : Nibble) (y : Suffix)
  /-- `PC=(A)`, 808C; R136. -/
  | pcIndA
  /-- `PC=(C)`, 808E; R137. -/
  | pcIndC
  /-- `PC=A`, 81B2; R138. -/
  | pcFromA
  /-- `PC=C`, 81B3; R139. -/
  | pcFromC
  /-- `APCEX`, 81B6; R140. -/
  | apcex
  /-- `CPCEX`, 81B7; R141. -/
  | cpcex
  /-- `HS=0 n`, 82n; R262. -/
  | hs0 (n : Nibble)
  /-- `XM=0`, 821; R256. -/
  | xm0
  /-- `SB=0`, 822; R257. -/
  | sb0
  /-- `SR=0`, 824; R258. -/
  | sr0
  /-- `MP=0`, 828; R259. -/
  | mp0
  /-- `CLRHS`, 82F; R260. -/
  | clrhs
  /-- `?HS=0 n`, 83nyy; R219. -/
  | tstHs0 (n : Nibble) (y : Suffix)
  /-- `?XM=0`, 831yy; R214. -/
  | tstXm0 (y : Suffix)
  /-- `?SB=0`, 832yy; R215. -/
  | tstSb0 (y : Suffix)
  /-- `?SR=0`, 834yy; R216. -/
  | tstSr0 (y : Suffix)
  /-- `?MP=0`, 838yy; R217. -/
  | tstMp0 (y : Suffix)
  /-- `ST=0 n`, 84n; R250. -/
  | st0 (n : Nibble)
  /-- `ST=1 n`, 85n; R251. -/
  | st1 (n : Nibble)
  /-- `?ST=0 n`, 86nyy; R212. -/
  | tstSt0 (n : Nibble) (y : Suffix)
  /-- `?ST=1 n`, 87nyy; R213. -/
  | tstSt1 (n : Nibble) (y : Suffix)
  /-- `?P# n`, 88nyy; R211. -/
  | tstPNe (n : Nibble) (y : Suffix)
  /-- `?P= n`, 89nyy; R210. -/
  | tstPEq (n : Nibble) (y : Suffix)
  /-- `?A=B A`, 8A0yy; R173. -/
  | eqABonA (y : Suffix)
  /-- `?A=B f`, 9a0yy; R173. -/
  | eqABonF (f : Field) (y : Suffix)
  /-- `?B=C A`, 8A1yy; R174. -/
  | eqBConA (y : Suffix)
  /-- `?B=C f`, 9a1yy; R174. -/
  | eqBConF (f : Field) (y : Suffix)
  /-- `?A=C A`, 8A2yy; R175. -/
  | eqAConA (y : Suffix)
  /-- `?A=C f`, 9a2yy; R175. -/
  | eqAConF (f : Field) (y : Suffix)
  /-- `?C=D A`, 8A3yy; R176. -/
  | eqCDonA (y : Suffix)
  /-- `?C=D f`, 9a3yy; R176. -/
  | eqCDonF (f : Field) (y : Suffix)
  /-- `?A#B A`, 8A4yy; R177. -/
  | neABonA (y : Suffix)
  /-- `?A#B f`, 9a4yy; R177. -/
  | neABonF (f : Field) (y : Suffix)
  /-- `?B#C A`, 8A5yy; R178. -/
  | neBConA (y : Suffix)
  /-- `?B#C f`, 9a5yy; R178. -/
  | neBConF (f : Field) (y : Suffix)
  /-- `?A#C A`, 8A6yy; R179. -/
  | neAConA (y : Suffix)
  /-- `?A#C f`, 9a6yy; R179. -/
  | neAConF (f : Field) (y : Suffix)
  /-- `?C#D A`, 8A7yy; R180. -/
  | neCDonA (y : Suffix)
  /-- `?C#D f`, 9a7yy; R180. -/
  | neCDonF (f : Field) (y : Suffix)
  /-- `?A=0 A`, 8A8yy; R181. -/
  | eqA0onA (y : Suffix)
  /-- `?A=0 f`, 9a8yy; R181. -/
  | eqA0onF (f : Field) (y : Suffix)
  /-- `?B=0 A`, 8A9yy; R182. -/
  | eqB0onA (y : Suffix)
  /-- `?B=0 f`, 9a9yy; R182. -/
  | eqB0onF (f : Field) (y : Suffix)
  /-- `?C=0 A`, 8AAyy; R183. -/
  | eqC0onA (y : Suffix)
  /-- `?C=0 f`, 9aAyy; R183. -/
  | eqC0onF (f : Field) (y : Suffix)
  /-- `?D=0 A`, 8AByy; R184. -/
  | eqD0onA (y : Suffix)
  /-- `?D=0 f`, 9aByy; R184. -/
  | eqD0onF (f : Field) (y : Suffix)
  /-- `?A#0 A`, 8ACyy; R185. -/
  | neA0onA (y : Suffix)
  /-- `?A#0 f`, 9aCyy; R185. -/
  | neA0onF (f : Field) (y : Suffix)
  /-- `?B#0 A`, 8ADyy; R186. -/
  | neB0onA (y : Suffix)
  /-- `?B#0 f`, 9aDyy; R186. -/
  | neB0onF (f : Field) (y : Suffix)
  /-- `?C#0 A`, 8AEyy; R187. -/
  | neC0onA (y : Suffix)
  /-- `?C#0 f`, 9aEyy; R187. -/
  | neC0onF (f : Field) (y : Suffix)
  /-- `?D#0 A`, 8AFyy; R188. -/
  | neD0onA (y : Suffix)
  /-- `?D#0 f`, 9aFyy; R188. -/
  | neD0onF (f : Field) (y : Suffix)
  /-- `?A>B A`, 8B0yy; R189. -/
  | gtABonA (y : Suffix)
  /-- `?A>B f`, 9b0yy; R189. -/
  | gtABonF (f : Field) (y : Suffix)
  /-- `?B>C A`, 8B1yy; R190. -/
  | gtBConA (y : Suffix)
  /-- `?B>C f`, 9b1yy; R190. -/
  | gtBConF (f : Field) (y : Suffix)
  /-- `?C>A A`, 8B2yy; R191. -/
  | gtCAonA (y : Suffix)
  /-- `?C>A f`, 9b2yy; R191. -/
  | gtCAonF (f : Field) (y : Suffix)
  /-- `?D>C A`, 8B3yy; R192. -/
  | gtDConA (y : Suffix)
  /-- `?D>C f`, 9b3yy; R192. -/
  | gtDConF (f : Field) (y : Suffix)
  /-- `?A<B A`, 8B4yy; R193. -/
  | ltABonA (y : Suffix)
  /-- `?A<B f`, 9b4yy; R193. -/
  | ltABonF (f : Field) (y : Suffix)
  /-- `?B<C A`, 8B5yy; R194. -/
  | ltBConA (y : Suffix)
  /-- `?B<C f`, 9b5yy; R194. -/
  | ltBConF (f : Field) (y : Suffix)
  /-- `?C<A A`, 8B6yy; R195. -/
  | ltCAonA (y : Suffix)
  /-- `?C<A f`, 9b6yy; R195. -/
  | ltCAonF (f : Field) (y : Suffix)
  /-- `?D<C A`, 8B7yy; R196. -/
  | ltDConA (y : Suffix)
  /-- `?D<C f`, 9b7yy; R196. -/
  | ltDConF (f : Field) (y : Suffix)
  /-- `?A>=B A`, 8B8yy; R197. -/
  | geABonA (y : Suffix)
  /-- `?A>=B f`, 9b8yy; R197. -/
  | geABonF (f : Field) (y : Suffix)
  /-- `?B>=C A`, 8B9yy; R198. -/
  | geBConA (y : Suffix)
  /-- `?B>=C f`, 9b9yy; R198. -/
  | geBConF (f : Field) (y : Suffix)
  /-- `?C>=A A`, 8BAyy; R199. -/
  | geCAonA (y : Suffix)
  /-- `?C>=A f`, 9bAyy; R199. -/
  | geCAonF (f : Field) (y : Suffix)
  /-- `?D>=C A`, 8BByy; R200. -/
  | geDConA (y : Suffix)
  /-- `?D>=C f`, 9bByy; R200. -/
  | geDConF (f : Field) (y : Suffix)
  /-- `?A<=B A`, 8BCyy; R201. -/
  | leABonA (y : Suffix)
  /-- `?A<=B f`, 9bCyy; R201. -/
  | leABonF (f : Field) (y : Suffix)
  /-- `?B<=C A`, 8BDyy; R202. -/
  | leBConA (y : Suffix)
  /-- `?B<=C f`, 9bDyy; R202. -/
  | leBConF (f : Field) (y : Suffix)
  /-- `?C<=A A`, 8BEyy; R203. -/
  | leCAonA (y : Suffix)
  /-- `?C<=A f`, 9bEyy; R203. -/
  | leCAonF (f : Field) (y : Suffix)
  /-- `?D<=C A`, 8BFyy; R204. -/
  | leDConA (y : Suffix)
  /-- `?D<=C f`, 9bFyy; R204. -/
  | leDConF (f : Field) (y : Suffix)
  /-- `GOLONG label`, 8Cdddd; R134. -/
  | golong (off : BitVec 16)
  /-- `GOVLNG label`, 8Dxxxxx; R135. -/
  | govlng (addr : Addr)
  /-- `GOSUBL label`, 8Edddd; R152. -/
  | gosubl (off : BitVec 16)
  /-- `GOSBVL label`, 8Fxxxxx; R153. -/
  | gosbvl (addr : Addr)
  /-- `GOYES label`, yy; R142. -/
  | goyes (off : BitVec 8)
  /-- `RTNYES`, 00; R161. -/
  | rtnyes
  deriving DecidableEq, Repr

end Sys2Proof
end

