-- ==== Sys2Proof/WellFormed.lean ====
section
/-!
DEFINITION. Which terms of `Instr` are instructions that some nibble string encodes (30_encoding.md). An offset 00 turns
a conditional jump or a suffix into a return (R98), a row "on another field" has no code for field A (R96), the masks
of the named HST instructions are those instructions (R100), and a suffix is no instruction of its own (R99).
-/

namespace Sys2Proof

/-- `GOYES` with offset 00 is `RTNYES` (30_encoding.md R98). -/
def Suffix.wf : Suffix → Bool
  | .goyes off => decide (off ≠ 0#8)
  | .rtnyes => true

/-- The fields a `TSTF` row can name: every field but A (30_encoding.md R96). -/
def Field.hasCode : Field → Bool
  | .a => false
  | .p => true
  | .wp => true
  | .xs => true
  | .x => true
  | .s => true
  | .m => true
  | .b => true
  | .w => true

/-- The masks of `82n` that have a named instruction: XM=0, SB=0, SR=0, MP=0, CLRHS (30_encoding.md R100). -/
def namedClear (n : Nibble) : Bool := decide (n ∈ [1#4, 2#4, 4#4, 8#4, 15#4])

/-- The masks of `83nyy` that have a named instruction: ?XM=0, ?SB=0, ?SR=0, ?MP=0 (30_encoding.md R100). -/
def namedTest (n : Nibble) : Bool := decide (n ∈ [1#4, 2#4, 4#4, 8#4])

/-- The terms that stand for an encoding of 30_encoding.md. -/
def Instr.wf : Instr → Bool
  | .rtnsxm | .rtn | .rtnsc | .rtncc | .clrst | .cFromSt | .stFromC | .cstex | .pInc | .pDec | .rti
  | .pSet _ | .rtnc | .rtnnc | .goto _ | .gosub _ | .cAddP1 | .cFromP _ | .pFromC _ | .cpex _ | .abit0 _
  | .abit1 _ | .cbit0 _ | .cbit1 _ | .pcIndA | .pcIndC | .pcFromA | .pcFromC | .apcex | .cpcex | .xm0 | .sb0
  | .sr0 | .mp0 | .clrhs | .st0 _ | .st1 _ | .golong _ | .govlng _ | .gosubl _ | .gosbvl _ => true
  | .goc off | .gonc off => decide (off ≠ 0#8)
  | .tstAbit0 _ y | .tstAbit1 _ y | .tstCbit0 _ y | .tstCbit1 _ y | .tstXm0 y | .tstSb0 y | .tstSr0 y
  | .tstMp0 y | .tstSt0 _ y | .tstSt1 _ y | .tstPNe _ y | .tstPEq _ y | .eqABonA y | .eqBConA y | .eqAConA y
  | .eqCDonA y | .neABonA y | .neBConA y | .neAConA y | .neCDonA y | .eqA0onA y | .eqB0onA y | .eqC0onA y
  | .eqD0onA y | .neA0onA y | .neB0onA y | .neC0onA y | .neD0onA y | .gtABonA y | .gtBConA y | .gtCAonA y
  | .gtDConA y | .ltABonA y | .ltBConA y | .ltCAonA y | .ltDConA y | .geABonA y | .geBConA y | .geCAonA y
  | .geDConA y | .leABonA y | .leBConA y | .leCAonA y | .leDConA y => y.wf
  | .hs0 n => !namedClear n
  | .tstHs0 n y => !namedTest n && y.wf
  | .eqABonF f y | .eqBConF f y | .eqAConF f y | .eqCDonF f y | .neABonF f y | .neBConF f y | .neAConF f y
  | .neCDonF f y | .eqA0onF f y | .eqB0onF f y | .eqC0onF f y | .eqD0onF f y | .neA0onF f y | .neB0onF f y
  | .neC0onF f y | .neD0onF f y | .gtABonF f y | .gtBConF f y | .gtCAonF f y | .gtDConF f y | .ltABonF f y
  | .ltBConF f y | .ltCAonF f y | .ltDConF f y | .geABonF f y | .geBConF f y | .geCAonF f y | .geDConF f y
  | .leABonF f y | .leBConF f y | .leCAonF f y | .leDConF f y => f.hasCode && y.wf
  | .goyes _ | .rtnyes => false

end Sys2Proof
end

