-- ==== Sys2Proof/Decode.lean ====
section
/-!
DEFINITION. From nibbles to an instruction (30_encoding.md R97, R105) and back. `decode` reads the nibbles in address
order, as many as the tables ask for, and answers an instruction, "unlisted" with the nibbles read so far (R102), or
"short" where the string ends before the instruction does.
-/

namespace Sys2Proof

/-- The number whose digit `i` is the `i`-th nibble: the first nibble is least significant (20_memory.md R61, 30_encoding.md R93). -/
def leValue : List Nibble → Nat
  | [] => 0
  | n :: r => n.toNat + 16 * leValue r

/-- The `k` low digits of a number, least significant first: the inverse of `leValue` on `k` nibbles. -/
def nibblesLE : Nat → Nat → List Nibble
  | 0, _ => []
  | k + 1, v => BitVec.ofNat 4 v :: nibblesLE k (v / 16)

/-- What the decoder finds in a string of nibbles. -/
inductive Decoded where
  /-- The string begins with this instruction. -/
  | ok (i : Instr)
  /-- The string begins with nibbles that no row of the opcode table matches; they are the ones read so far (30_encoding.md R102). -/
  | unlisted (read : List Nibble)
  /-- The string ends before the instruction that it begins does. -/
  | short
  deriving DecidableEq, Repr

/-- The suffix that two nibbles `yy` encode: 00 is RTNYES, anything else GOYES (30_encoding.md R98). -/
def suffixOf (y0 y1 : Nibble) : Suffix :=
  if BitVec.ofNat 8 (leValue [y0, y1]) = 0#8 then .rtnyes else .goyes (BitVec.ofNat 8 (leValue [y0, y1]))

/-- A test whose own nibbles have been read: the next two are its suffix, whatever they are (30_encoding.md R99). -/
def decodeTest (mk : Suffix → Instr) : List Nibble → Decoded
  | y0 :: y1 :: _ => .ok (mk (suffixOf y0 y1))
  | _ => .short

/-- An instruction whose last nibble is its digit operand `n`. -/
def decodeDigit (mk : Nibble → Instr) : List Nibble → Decoded
  | n :: _ => .ok (mk n)
  | [] => .short

/-- A test with a digit operand `n` before its suffix. -/
def decodeDigitTest (mk : Nibble → Suffix → Instr) : List Nibble → Decoded
  | n :: r => decodeTest (mk n) r
  | [] => .short

/-- An operand of two nibbles (format REL2, 30_encoding.md R92): `GOC`, `GONC`, and with 00 `RTNC`, `RTNNC` (R98). -/
def decodeOff8 (mk : BitVec 8 → Instr) (zero : Instr) : List Nibble → Decoded
  | n1 :: n2 :: _ =>
    if BitVec.ofNat 8 (leValue [n1, n2]) = 0#8 then .ok zero else .ok (mk (BitVec.ofNat 8 (leValue [n1, n2])))
  | _ => .short

/-- A relative operand of three nibbles (format REL3). -/
def decodeOff12 (mk : BitVec 12 → Instr) : List Nibble → Decoded
  | n1 :: n2 :: n3 :: _ => .ok (mk (BitVec.ofNat 12 (leValue [n1, n2, n3])))
  | _ => .short

/-- A relative operand of four nibbles (format REL4). -/
def decodeOff16 (mk : BitVec 16 → Instr) : List Nibble → Decoded
  | n2 :: n3 :: n4 :: n5 :: _ => .ok (mk (BitVec.ofNat 16 (leValue [n2, n3, n4, n5])))
  | _ => .short

/-- An absolute operand of five nibbles (format ABS5, 30_encoding.md R95). -/
def decodeAddr (mk : Addr → Instr) : List Nibble → Decoded
  | n2 :: n3 :: n4 :: n5 :: n6 :: _ => .ok (mk (BitVec.ofNat 20 (leValue [n2, n3, n4, n5, n6])))
  | _ => .short

/-- The field of a code (a), or of a code (b) less 8 (30_encoding.md R96). -/
def fieldOfCode (k : Nat) : Field :=
  match k with
  | 0 => .p
  | 1 => .wp
  | 2 => .xs
  | 3 => .x
  | 4 => .s
  | 5 => .m
  | 6 => .b
  | _ => .w

/-- The code (a) of a field; the table's F for A is used by no instruction in scope (10_state.md R21, 30_encoding.md R96). -/
def codeOfField : Field → Nat
  | .p => 0
  | .wp => 1
  | .xs => 2
  | .x => 3
  | .s => 4
  | .m => 5
  | .b => 6
  | .w => 7
  | .a => 15

/-- Table "tests", equality and zero group, on field A: `8A` then the test nibble (30_encoding.md R97). -/
def equalityTestOnA (t : Nibble) (y : Suffix) : Instr :=
  match t.toNat with
  | 0 => .eqABonA y
  | 1 => .eqBConA y
  | 2 => .eqAConA y
  | 3 => .eqCDonA y
  | 4 => .neABonA y
  | 5 => .neBConA y
  | 6 => .neAConA y
  | 7 => .neCDonA y
  | 8 => .eqA0onA y
  | 9 => .eqB0onA y
  | 10 => .eqC0onA y
  | 11 => .eqD0onA y
  | 12 => .neA0onA y
  | 13 => .neB0onA y
  | 14 => .neC0onA y
  | _ => .neD0onA y

/-- Table "tests", order group, on field A: `8B` then the test nibble (30_encoding.md R97). -/
def orderTestOnA (t : Nibble) (y : Suffix) : Instr :=
  match t.toNat with
  | 0 => .gtABonA y
  | 1 => .gtBConA y
  | 2 => .gtCAonA y
  | 3 => .gtDConA y
  | 4 => .ltABonA y
  | 5 => .ltBConA y
  | 6 => .ltCAonA y
  | 7 => .ltDConA y
  | 8 => .geABonA y
  | 9 => .geBConA y
  | 10 => .geCAonA y
  | 11 => .geDConA y
  | 12 => .leABonA y
  | 13 => .leBConA y
  | 14 => .leCAonA y
  | _ => .leDConA y

/-- Table "tests", equality and zero group, on another field: `9a` then the test nibble (30_encoding.md R97). -/
def equalityTestOnF (t : Nibble) (f : Field) (y : Suffix) : Instr :=
  match t.toNat with
  | 0 => .eqABonF f y
  | 1 => .eqBConF f y
  | 2 => .eqAConF f y
  | 3 => .eqCDonF f y
  | 4 => .neABonF f y
  | 5 => .neBConF f y
  | 6 => .neAConF f y
  | 7 => .neCDonF f y
  | 8 => .eqA0onF f y
  | 9 => .eqB0onF f y
  | 10 => .eqC0onF f y
  | 11 => .eqD0onF f y
  | 12 => .neA0onF f y
  | 13 => .neB0onF f y
  | 14 => .neC0onF f y
  | _ => .neD0onF f y

/-- Table "tests", order group, on another field: `9b` then the test nibble (30_encoding.md R97). -/
def orderTestOnF (t : Nibble) (f : Field) (y : Suffix) : Instr :=
  match t.toNat with
  | 0 => .gtABonF f y
  | 1 => .gtBConF f y
  | 2 => .gtCAonF f y
  | 3 => .gtDConF f y
  | 4 => .ltABonF f y
  | 5 => .ltBConF f y
  | 6 => .ltCAonF f y
  | 7 => .ltDConF f y
  | 8 => .geABonF f y
  | 9 => .geBConF f y
  | 10 => .geCAonF f y
  | 11 => .geDConF f y
  | 12 => .leABonF f y
  | 13 => .leBConF f y
  | 14 => .leCAonF f y
  | _ => .leDConF f y

/-- Table "0?" (30_encoding.md R97): every entry has 2 nibbles. -/
def decode0 : List Nibble → Decoded
  | [] => .short
  | n1 :: _ =>
    match n1.toNat with
    | 0 => .ok .rtnsxm
    | 1 => .ok .rtn
    | 2 => .ok .rtnsc
    | 3 => .ok .rtncc
    | 8 => .ok .clrst
    | 9 => .ok .cFromSt
    | 10 => .ok .stFromC
    | 11 => .ok .cstex
    | 12 => .ok .pInc
    | 13 => .ok .pDec
    | 15 => .ok .rti
    | _ => .unlisted [0#4, n1]

/-- Table "808?" (30_encoding.md R97, R101). -/
def decode808 : List Nibble → Decoded
  | [] => .short
  | n3 :: r =>
    match n3.toNat with
    | 4 => decodeDigit .abit0 r
    | 5 => decodeDigit .abit1 r
    | 6 => decodeDigitTest .tstAbit0 r
    | 7 => decodeDigitTest .tstAbit1 r
    | 8 => decodeDigit .cbit0 r
    | 9 => decodeDigit .cbit1 r
    | 10 => decodeDigitTest .tstCbit0 r
    | 11 => decodeDigitTest .tstCbit1 r
    | 12 => .ok .pcIndA
    | 14 => .ok .pcIndC
    | _ => .unlisted [8#4, 0#4, 8#4, n3]

/-- Table "80?" (30_encoding.md R97). -/
def decode80 : List Nibble → Decoded
  | [] => .short
  | n2 :: r =>
    match n2.toNat with
    | 8 => decode808 r
    | 9 => .ok .cAddP1
    | 12 => decodeDigit .cFromP r
    | 13 => decodeDigit .pFromC r
    | 15 => decodeDigit .cpex r
    | _ => .unlisted [8#4, 0#4, n2]

/-- Table "81?", indexed by the two nibbles `n[2] n[3]` (30_encoding.md R97, R101). -/
def decode81 : List Nibble → Decoded
  | n2 :: n3 :: _ =>
    match n2.toNat, n3.toNat with
    | 11, 2 => .ok .pcFromA
    | 11, 3 => .ok .pcFromC
    | 11, 6 => .ok .apcex
    | 11, 7 => .ok .cpcex
    | _, _ => .unlisted [8#4, 1#4, n2, n3]
  | _ => .short

/-- `82n`: the named clears for their masks, else the general form where HS_MASK_GENERAL admits it (30_encoding.md R97, R100). -/
def decode82 (hsMask : Bool) : List Nibble → Decoded
  | [] => .short
  | n :: _ =>
    match n.toNat with
    | 1 => .ok .xm0
    | 2 => .ok .sb0
    | 4 => .ok .sr0
    | 8 => .ok .mp0
    | 15 => .ok .clrhs
    | _ => if hsMask then .ok (.hs0 n) else .unlisted [8#4, 2#4, n]

/-- `83nyy`: the named tests for their masks, else the general form where HS_MASK_GENERAL admits it (30_encoding.md R97, R100). -/
def decode83 (hsMask : Bool) : List Nibble → Decoded
  | [] => .short
  | n :: r =>
    match n.toNat with
    | 1 => decodeTest .tstXm0 r
    | 2 => decodeTest .tstSb0 r
    | 4 => decodeTest .tstSr0 r
    | 8 => decodeTest .tstMp0 r
    | _ => if hsMask then decodeTest (.tstHs0 n) r else .unlisted [8#4, 3#4, n]

/-- A register test on field A: the test nibble, then the suffix. -/
def decodeTestOnA (group : Nibble → Suffix → Instr) : List Nibble → Decoded
  | [] => .short
  | t :: r => decodeTest (group t) r

/-- Table "8?" (30_encoding.md R97). -/
def decode8 (hsMask : Bool) : List Nibble → Decoded
  | [] => .short
  | n1 :: r =>
    match n1.toNat with
    | 0 => decode80 r
    | 1 => decode81 r
    | 2 => decode82 hsMask r
    | 3 => decode83 hsMask r
    | 4 => decodeDigit .st0 r
    | 5 => decodeDigit .st1 r
    | 6 => decodeDigitTest .tstSt0 r
    | 7 => decodeDigitTest .tstSt1 r
    | 8 => decodeDigitTest .tstPNe r
    | 9 => decodeDigitTest .tstPEq r
    | 10 => decodeTestOnA equalityTestOnA r
    | 11 => decodeTestOnA orderTestOnA r
    | 12 => decodeOff16 .golong r
    | 13 => decodeAddr .govlng r
    | 14 => decodeOff16 .gosubl r
    | _ => decodeAddr .gosbvl r

/-- `n[0]` = 9: bit 3 of the field code tells the group, bits 2..0 the field (30_encoding.md R96). -/
def decode9 : List Nibble → Decoded
  | n1 :: t :: r =>
    if n1.toNat < 8 then decodeTest (equalityTestOnF t (fieldOfCode n1.toNat)) r
    else decodeTest (orderTestOnF t (fieldOfCode (n1.toNat - 8))) r
  | _ => .short

/-- The decoder (30_encoding.md R97): `hsMask` is the parameter HS_MASK_GENERAL. What follows the instruction is not read.
A level above the machine's is refused by the meaning, after the decoding (60_exceptions.md R281, D37). -/
def decode (hsMask : Bool) : List Nibble → Decoded
  | [] => .short
  | n0 :: r =>
    match n0.toNat with
    | 0 => decode0 r
    | 2 => decodeDigit .pSet r
    | 4 => decodeOff8 .goc .rtnc r
    | 5 => decodeOff8 .gonc .rtnnc r
    | 6 => decodeOff12 .goto r
    | 7 => decodeOff12 .gosub r
    | 8 => decode8 hsMask r
    | 9 => decode9 r
    | _ => .unlisted [n0]

/-- The number of nibbles of an instruction (30_encoding.md R92, R105); of a SUFFIX row, its two. -/
def Instr.length : Instr → Nat
  | .rtnsxm | .rtn | .rtnsc | .rtncc | .clrst | .cFromSt | .stFromC | .cstex | .pInc | .pDec | .rti
  | .pSet _ | .goyes _ | .rtnyes => 2
  | .goc _ | .rtnc | .gonc _ | .rtnnc | .cAddP1 | .hs0 _ | .xm0 | .sb0 | .sr0 | .mp0 | .clrhs | .st0 _
  | .st1 _ => 3
  | .goto _ | .gosub _ | .cFromP _ | .pFromC _ | .cpex _ | .pcIndA | .pcIndC | .pcFromA | .pcFromC | .apcex
  | .cpcex => 4
  | .abit0 _ | .abit1 _ | .cbit0 _ | .cbit1 _ | .tstHs0 _ _ | .tstXm0 _ | .tstSb0 _ | .tstSr0 _ | .tstMp0 _
  | .tstSt0 _ _ | .tstSt1 _ _ | .tstPNe _ _ | .tstPEq _ _ | .eqABonA _ | .eqABonF _ _ | .eqBConA _
  | .eqBConF _ _ | .eqAConA _ | .eqAConF _ _ | .eqCDonA _ | .eqCDonF _ _ | .neABonA _ | .neABonF _ _
  | .neBConA _ | .neBConF _ _ | .neAConA _ | .neAConF _ _ | .neCDonA _ | .neCDonF _ _ | .eqA0onA _
  | .eqA0onF _ _ | .eqB0onA _ | .eqB0onF _ _ | .eqC0onA _ | .eqC0onF _ _ | .eqD0onA _ | .eqD0onF _ _
  | .neA0onA _ | .neA0onF _ _ | .neB0onA _ | .neB0onF _ _ | .neC0onA _ | .neC0onF _ _ | .neD0onA _
  | .neD0onF _ _ | .gtABonA _ | .gtABonF _ _ | .gtBConA _ | .gtBConF _ _ | .gtCAonA _ | .gtCAonF _ _
  | .gtDConA _ | .gtDConF _ _ | .ltABonA _ | .ltABonF _ _ | .ltBConA _ | .ltBConF _ _ | .ltCAonA _
  | .ltCAonF _ _ | .ltDConA _ | .ltDConF _ _ | .geABonA _ | .geABonF _ _ | .geBConA _ | .geBConF _ _
  | .geCAonA _ | .geCAonF _ _ | .geDConA _ | .geDConF _ _ | .leABonA _ | .leABonF _ _ | .leBConA _
  | .leBConF _ _ | .leCAonA _ | .leCAonF _ _ | .leDConA _ | .leDConF _ _ => 5
  | .tstAbit0 _ _ | .tstAbit1 _ _ | .tstCbit0 _ _ | .tstCbit1 _ _ | .govlng _ | .gosbvl _ => 7
  | .golong _ | .gosubl _ => 6

/-- The level of an instruction: an instruction with no mark in the source is level 0 (00_scope.md R2). -/
def Instr.level : Instr → Nat
  | .rtnsxm | .rtn | .rtnsc | .rtncc | .clrst | .cFromSt | .stFromC | .cstex | .pInc | .pDec | .rti
  | .pSet _ | .goc _ | .rtnc | .gonc _ | .rtnnc | .goto _ | .gosub _ | .cAddP1 | .cFromP _ | .pFromC _
  | .cpex _ | .hs0 _ | .xm0 | .sb0 | .sr0 | .mp0 | .clrhs | .tstHs0 _ _ | .tstXm0 _ | .tstSb0 _ | .tstSr0 _
  | .tstMp0 _ | .st0 _ | .st1 _ | .tstSt0 _ _ | .tstSt1 _ _ | .tstPNe _ _ | .tstPEq _ _ | .eqABonA _
  | .eqABonF _ _ | .eqBConA _ | .eqBConF _ _ | .eqAConA _ | .eqAConF _ _ | .eqCDonA _ | .eqCDonF _ _
  | .neABonA _ | .neABonF _ _ | .neBConA _ | .neBConF _ _ | .neAConA _ | .neAConF _ _ | .neCDonA _
  | .neCDonF _ _ | .eqA0onA _ | .eqA0onF _ _ | .eqB0onA _ | .eqB0onF _ _ | .eqC0onA _ | .eqC0onF _ _
  | .eqD0onA _ | .eqD0onF _ _ | .neA0onA _ | .neA0onF _ _ | .neB0onA _ | .neB0onF _ _ | .neC0onA _
  | .neC0onF _ _ | .neD0onA _ | .neD0onF _ _ | .gtABonA _ | .gtABonF _ _ | .gtBConA _ | .gtBConF _ _
  | .gtCAonA _ | .gtCAonF _ _ | .gtDConA _ | .gtDConF _ _ | .ltABonA _ | .ltABonF _ _ | .ltBConA _
  | .ltBConF _ _ | .ltCAonA _ | .ltCAonF _ _ | .ltDConA _ | .ltDConF _ _ | .geABonA _ | .geABonF _ _
  | .geBConA _ | .geBConF _ _ | .geCAonA _ | .geCAonF _ _ | .geDConA _ | .geDConF _ _ | .leABonA _
  | .leABonF _ _ | .leBConA _ | .leBConF _ _ | .leCAonA _ | .leCAonF _ _ | .leDConA _ | .leDConF _ _
  | .golong _ | .govlng _ | .gosubl _ | .gosbvl _ | .goyes _ | .rtnyes => 0
  | .abit0 _ | .abit1 _ | .tstAbit0 _ _ | .tstAbit1 _ _ | .cbit0 _ | .cbit1 _ | .tstCbit0 _ _
  | .tstCbit1 _ _ | .pcIndC | .pcFromA | .pcFromC | .apcex | .cpcex => 2
  | .pcIndA => 1

/-- The two nibbles of a suffix (30_encoding.md R98). -/
def encodeSuffix : Suffix → List Nibble
  | .goyes off => nibblesLE 2 off.toNat
  | .rtnyes => [0#4, 0#4]

/-- The nibbles of an instruction, first nibble first (30_encoding.md R92). A SUFFIX row has the two nibbles of the suffix. -/
def encode : Instr → List Nibble
  | .rtnsxm => [0#4, 0#4]
  | .rtn => [0#4, 1#4]
  | .rtnsc => [0#4, 2#4]
  | .rtncc => [0#4, 3#4]
  | .clrst => [0#4, 8#4]
  | .cFromSt => [0#4, 9#4]
  | .stFromC => [0#4, 10#4]
  | .cstex => [0#4, 11#4]
  | .pInc => [0#4, 12#4]
  | .pDec => [0#4, 13#4]
  | .rti => [0#4, 15#4]
  | .pSet n => [2#4, n]
  | .goc off => [4#4] ++ nibblesLE 2 off.toNat
  | .rtnc => [4#4, 0#4, 0#4]
  | .gonc off => [5#4] ++ nibblesLE 2 off.toNat
  | .rtnnc => [5#4, 0#4, 0#4]
  | .goto off => [6#4] ++ nibblesLE 3 off.toNat
  | .gosub off => [7#4] ++ nibblesLE 3 off.toNat
  | .cAddP1 => [8#4, 0#4, 9#4]
  | .cFromP n => [8#4, 0#4, 12#4, n]
  | .pFromC n => [8#4, 0#4, 13#4, n]
  | .cpex n => [8#4, 0#4, 15#4, n]
  | .abit0 n => [8#4, 0#4, 8#4, 4#4, n]
  | .abit1 n => [8#4, 0#4, 8#4, 5#4, n]
  | .tstAbit0 n y => [8#4, 0#4, 8#4, 6#4, n] ++ encodeSuffix y
  | .tstAbit1 n y => [8#4, 0#4, 8#4, 7#4, n] ++ encodeSuffix y
  | .cbit0 n => [8#4, 0#4, 8#4, 8#4, n]
  | .cbit1 n => [8#4, 0#4, 8#4, 9#4, n]
  | .tstCbit0 n y => [8#4, 0#4, 8#4, 10#4, n] ++ encodeSuffix y
  | .tstCbit1 n y => [8#4, 0#4, 8#4, 11#4, n] ++ encodeSuffix y
  | .pcIndA => [8#4, 0#4, 8#4, 12#4]
  | .pcIndC => [8#4, 0#4, 8#4, 14#4]
  | .pcFromA => [8#4, 1#4, 11#4, 2#4]
  | .pcFromC => [8#4, 1#4, 11#4, 3#4]
  | .apcex => [8#4, 1#4, 11#4, 6#4]
  | .cpcex => [8#4, 1#4, 11#4, 7#4]
  | .hs0 n => [8#4, 2#4, n]
  | .xm0 => [8#4, 2#4, 1#4]
  | .sb0 => [8#4, 2#4, 2#4]
  | .sr0 => [8#4, 2#4, 4#4]
  | .mp0 => [8#4, 2#4, 8#4]
  | .clrhs => [8#4, 2#4, 15#4]
  | .tstHs0 n y => [8#4, 3#4, n] ++ encodeSuffix y
  | .tstXm0 y => [8#4, 3#4, 1#4] ++ encodeSuffix y
  | .tstSb0 y => [8#4, 3#4, 2#4] ++ encodeSuffix y
  | .tstSr0 y => [8#4, 3#4, 4#4] ++ encodeSuffix y
  | .tstMp0 y => [8#4, 3#4, 8#4] ++ encodeSuffix y
  | .st0 n => [8#4, 4#4, n]
  | .st1 n => [8#4, 5#4, n]
  | .tstSt0 n y => [8#4, 6#4, n] ++ encodeSuffix y
  | .tstSt1 n y => [8#4, 7#4, n] ++ encodeSuffix y
  | .tstPNe n y => [8#4, 8#4, n] ++ encodeSuffix y
  | .tstPEq n y => [8#4, 9#4, n] ++ encodeSuffix y
  | .eqABonA y => [8#4, 10#4, 0#4] ++ encodeSuffix y
  | .eqABonF f y => [9#4, BitVec.ofNat 4 (codeOfField f), 0#4] ++ encodeSuffix y
  | .eqBConA y => [8#4, 10#4, 1#4] ++ encodeSuffix y
  | .eqBConF f y => [9#4, BitVec.ofNat 4 (codeOfField f), 1#4] ++ encodeSuffix y
  | .eqAConA y => [8#4, 10#4, 2#4] ++ encodeSuffix y
  | .eqAConF f y => [9#4, BitVec.ofNat 4 (codeOfField f), 2#4] ++ encodeSuffix y
  | .eqCDonA y => [8#4, 10#4, 3#4] ++ encodeSuffix y
  | .eqCDonF f y => [9#4, BitVec.ofNat 4 (codeOfField f), 3#4] ++ encodeSuffix y
  | .neABonA y => [8#4, 10#4, 4#4] ++ encodeSuffix y
  | .neABonF f y => [9#4, BitVec.ofNat 4 (codeOfField f), 4#4] ++ encodeSuffix y
  | .neBConA y => [8#4, 10#4, 5#4] ++ encodeSuffix y
  | .neBConF f y => [9#4, BitVec.ofNat 4 (codeOfField f), 5#4] ++ encodeSuffix y
  | .neAConA y => [8#4, 10#4, 6#4] ++ encodeSuffix y
  | .neAConF f y => [9#4, BitVec.ofNat 4 (codeOfField f), 6#4] ++ encodeSuffix y
  | .neCDonA y => [8#4, 10#4, 7#4] ++ encodeSuffix y
  | .neCDonF f y => [9#4, BitVec.ofNat 4 (codeOfField f), 7#4] ++ encodeSuffix y
  | .eqA0onA y => [8#4, 10#4, 8#4] ++ encodeSuffix y
  | .eqA0onF f y => [9#4, BitVec.ofNat 4 (codeOfField f), 8#4] ++ encodeSuffix y
  | .eqB0onA y => [8#4, 10#4, 9#4] ++ encodeSuffix y
  | .eqB0onF f y => [9#4, BitVec.ofNat 4 (codeOfField f), 9#4] ++ encodeSuffix y
  | .eqC0onA y => [8#4, 10#4, 10#4] ++ encodeSuffix y
  | .eqC0onF f y => [9#4, BitVec.ofNat 4 (codeOfField f), 10#4] ++ encodeSuffix y
  | .eqD0onA y => [8#4, 10#4, 11#4] ++ encodeSuffix y
  | .eqD0onF f y => [9#4, BitVec.ofNat 4 (codeOfField f), 11#4] ++ encodeSuffix y
  | .neA0onA y => [8#4, 10#4, 12#4] ++ encodeSuffix y
  | .neA0onF f y => [9#4, BitVec.ofNat 4 (codeOfField f), 12#4] ++ encodeSuffix y
  | .neB0onA y => [8#4, 10#4, 13#4] ++ encodeSuffix y
  | .neB0onF f y => [9#4, BitVec.ofNat 4 (codeOfField f), 13#4] ++ encodeSuffix y
  | .neC0onA y => [8#4, 10#4, 14#4] ++ encodeSuffix y
  | .neC0onF f y => [9#4, BitVec.ofNat 4 (codeOfField f), 14#4] ++ encodeSuffix y
  | .neD0onA y => [8#4, 10#4, 15#4] ++ encodeSuffix y
  | .neD0onF f y => [9#4, BitVec.ofNat 4 (codeOfField f), 15#4] ++ encodeSuffix y
  | .gtABonA y => [8#4, 11#4, 0#4] ++ encodeSuffix y
  | .gtABonF f y => [9#4, BitVec.ofNat 4 (codeOfField f + 8), 0#4] ++ encodeSuffix y
  | .gtBConA y => [8#4, 11#4, 1#4] ++ encodeSuffix y
  | .gtBConF f y => [9#4, BitVec.ofNat 4 (codeOfField f + 8), 1#4] ++ encodeSuffix y
  | .gtCAonA y => [8#4, 11#4, 2#4] ++ encodeSuffix y
  | .gtCAonF f y => [9#4, BitVec.ofNat 4 (codeOfField f + 8), 2#4] ++ encodeSuffix y
  | .gtDConA y => [8#4, 11#4, 3#4] ++ encodeSuffix y
  | .gtDConF f y => [9#4, BitVec.ofNat 4 (codeOfField f + 8), 3#4] ++ encodeSuffix y
  | .ltABonA y => [8#4, 11#4, 4#4] ++ encodeSuffix y
  | .ltABonF f y => [9#4, BitVec.ofNat 4 (codeOfField f + 8), 4#4] ++ encodeSuffix y
  | .ltBConA y => [8#4, 11#4, 5#4] ++ encodeSuffix y
  | .ltBConF f y => [9#4, BitVec.ofNat 4 (codeOfField f + 8), 5#4] ++ encodeSuffix y
  | .ltCAonA y => [8#4, 11#4, 6#4] ++ encodeSuffix y
  | .ltCAonF f y => [9#4, BitVec.ofNat 4 (codeOfField f + 8), 6#4] ++ encodeSuffix y
  | .ltDConA y => [8#4, 11#4, 7#4] ++ encodeSuffix y
  | .ltDConF f y => [9#4, BitVec.ofNat 4 (codeOfField f + 8), 7#4] ++ encodeSuffix y
  | .geABonA y => [8#4, 11#4, 8#4] ++ encodeSuffix y
  | .geABonF f y => [9#4, BitVec.ofNat 4 (codeOfField f + 8), 8#4] ++ encodeSuffix y
  | .geBConA y => [8#4, 11#4, 9#4] ++ encodeSuffix y
  | .geBConF f y => [9#4, BitVec.ofNat 4 (codeOfField f + 8), 9#4] ++ encodeSuffix y
  | .geCAonA y => [8#4, 11#4, 10#4] ++ encodeSuffix y
  | .geCAonF f y => [9#4, BitVec.ofNat 4 (codeOfField f + 8), 10#4] ++ encodeSuffix y
  | .geDConA y => [8#4, 11#4, 11#4] ++ encodeSuffix y
  | .geDConF f y => [9#4, BitVec.ofNat 4 (codeOfField f + 8), 11#4] ++ encodeSuffix y
  | .leABonA y => [8#4, 11#4, 12#4] ++ encodeSuffix y
  | .leABonF f y => [9#4, BitVec.ofNat 4 (codeOfField f + 8), 12#4] ++ encodeSuffix y
  | .leBConA y => [8#4, 11#4, 13#4] ++ encodeSuffix y
  | .leBConF f y => [9#4, BitVec.ofNat 4 (codeOfField f + 8), 13#4] ++ encodeSuffix y
  | .leCAonA y => [8#4, 11#4, 14#4] ++ encodeSuffix y
  | .leCAonF f y => [9#4, BitVec.ofNat 4 (codeOfField f + 8), 14#4] ++ encodeSuffix y
  | .leDConA y => [8#4, 11#4, 15#4] ++ encodeSuffix y
  | .leDConF f y => [9#4, BitVec.ofNat 4 (codeOfField f + 8), 15#4] ++ encodeSuffix y
  | .golong off => [8#4, 12#4] ++ nibblesLE 4 off.toNat
  | .govlng addr => [8#4, 13#4] ++ nibblesLE 5 addr.toNat
  | .gosubl off => [8#4, 14#4] ++ nibblesLE 4 off.toNat
  | .gosbvl addr => [8#4, 15#4] ++ nibblesLE 5 addr.toNat
  | .goyes off => encodeSuffix (.goyes off)
  | .rtnyes => encodeSuffix .rtnyes

/-- The nibbles of a word as spec/opcode_table.json numbers it, nibble `i` of the instruction at bits 4i+3..4i, seven of
them (the longest instruction); every bit above `nbits` is 0 (log entry 7). -/
def wordNibbles (nbits w : Nat) : List Nibble := nibblesLE 7 (w % 2 ^ nbits)

/-- The instruction the decoder reads from a word of the table, with HS_MASK_GENERAL at its default. -/
def decodeTableWord (nbits w : Nat) : Option Instr :=
  match decode true (wordNibbles nbits w) with
  | .ok i => some i
  | .unlisted _ => none
  | .short => none

end Sys2Proof
end

