-- ==== Sys2Proof/Config.lean ====
section
/-!
DEFINITION. The parameters the spec leaves to each machine (00_scope.md R5), as plain data. They stand in the
state's field `cfg`, which no step changes, so that a statement about every state holds for every value of them
(log entry 3). MEM is the state's `mem`; EXIT is an argument of the run functions of Safety.lean.
No instruction in scope leaves a result undefined, so there is no opaque free value.
-/

namespace Sys2Proof

/-- The three versions of the processor (00_scope.md R1). -/
inductive Version where
  | v1LF2
  | v1LK7
  | v1LT8
  deriving DecidableEq, Repr

/-- SATURN_LEVEL: the highest instruction level a version executes (00_scope.md R2). -/
def Version.level : Version → Nat
  | .v1LF2 => 0
  | .v1LK7 => 1
  | .v1LT8 => 2

/-- INTERRUPTS: whether and how an interrupt is delivered (60_exceptions.md R285). -/
inductive InterruptMode where
  /-- No interrupt is ever delivered (the spec's default). -/
  | none
  /-- An interrupt signalled while INTE = 1 enters at 0000Fh. -/
  | vector0000F
  deriving DecidableEq, Repr

/-- The parameters of one machine (00_scope.md R5). -/
structure Params where
  /-- SATURN_LEVEL, as the version it belongs to (00_scope.md R2). -/
  version : Version
  /-- HS_MASK_GENERAL: opcodes 82h and 83h are read as masks for every digit (30_encoding.md R100). -/
  hsMaskGeneral : Bool
  /-- INTERRUPTS (60_exceptions.md R285). -/
  interrupts : InterruptMode
  /-- HST_ASYNC: the HST bits the environment may set between steps (10_state.md R39). -/
  hstAsync : Nibble
  deriving DecidableEq, Repr

/-- The parameters of the machine `State.reset` describes: version 1LT8, which executes every level (DESIGN CHOICE, log
entry 3), and the spec's defaults HS_MASK_GENERAL = true, INTERRUPTS = none, HST_ASYNC = the bit of MP (00_scope.md R5). -/
def Params.default : Params where
  version := .v1LT8
  hsMaskGeneral := true
  interrupts := .none
  hstAsync := 8#4

end Sys2Proof
end

