-- ==== Sys2Proof/Machine/State.lean ====
section
/-!
DEFINITION. The state of the machine as plain data: every piece of 10_state.md R44, the parameters of 00_scope.md R5, and
one field of the model's own, the environment's boundary events (log entry 4). And the reasons a step stops.
-/

namespace Sys2Proof.Machine

/-- Memory as MEM gives it (00_scope.md R5, 20_memory.md R67): the readable nibbles, as (address, nibble) cells with strictly
rising addresses; the cell's byte holds the nibble in its low four bits (log entry 6). An address that is not listed is one
that MEM does not declare readable: it has no value, and reading it is refused (log entry 5). -/
abbrev Memory := List Host.Cell

/-- The return stack RSTK: eight levels of 20 bits, `l0` the top, `l7` the deepest (10_state.md R34). -/
structure RStk where
  l0 : Addr
  l1 : Addr
  l2 : Addr
  l3 : Addr
  l4 : Addr
  l5 : Addr
  l6 : Addr
  l7 : Addr
  deriving DecidableEq, Repr

/-- What the environment does at one boundary between two steps (10_state.md R39, 60_exceptions.md R285). -/
structure EnvEvent where
  /-- The HST bits it tries to set; only those in HST_ASYNC are set. -/
  hstSet : Nibble
  /-- It signals an interrupt. -/
  irq : Bool
  deriving DecidableEq, Repr

/-- The state of the machine (10_state.md R44). -/
structure State where
  /-- Working register A (R20). -/
  a : Reg64
  /-- Working register B (R20). -/
  b : Reg64
  /-- Working register C (R20). -/
  c : Reg64
  /-- Working register D (R20). -/
  d : Reg64
  /-- Scratch register R0 (R24). -/
  r0 : Reg64
  /-- Scratch register R1 (R24). -/
  r1 : Reg64
  /-- Scratch register R2 (R24). -/
  r2 : Reg64
  /-- Scratch register R3 (R24). -/
  r3 : Reg64
  /-- Scratch register R4 (R24). -/
  r4 : Reg64
  /-- Memory pointer D0 (R25). -/
  d0 : Addr
  /-- Memory pointer D1 (R25). -/
  d1 : Addr
  /-- Register pointer P (R26). -/
  p : Nibble
  /-- Program counter PC (R27). -/
  pc : Addr
  /-- Input register IN (R28). -/
  inReg : BitVec 16
  /-- Output register OUT (R28). -/
  outReg : BitVec 12
  /-- The carry bit CARRY (R29). -/
  carry : Bool
  /-- The hardware status bits HST: bit 3 MP, bit 2 SR, bit 1 SB, bit 0 XM (R30). -/
  hst : Nibble
  /-- The sixteen program flags ST (R32). -/
  st : BitVec 16
  /-- The return stack RSTK (R34). -/
  rstk : RStk
  /-- The arithmetic mode HEXMODE: true is hexadecimal (R36). -/
  hexMode : Bool
  /-- The interrupt enable INTE (R37). -/
  inte : Bool
  /-- Memory (20_memory.md R60, R67). -/
  mem : Memory
  /-- The parameters of this machine (00_scope.md R5); no step changes them. -/
  cfg : Params
  /-- THE MODEL'S OWN: what the environment does at the coming boundaries; a step consumes the first event, and an empty
  list is a quiet environment (log entry 4). -/
  env : List EnvEvent
  deriving DecidableEq, Repr

/-- The reasons the machine faults: there are none. The spec names no synchronous exception and treats no behaviour as a
fault (60_exceptions.md R280, D36). -/
inductive Fault where
  deriving DecidableEq, Repr

/-- The reasons the model refuses a step: `refuse` of 00_scope.md R10. None is an event of the hardware. -/
inductive Refusal where
  /-- Raised by exec for an instruction this model has given no meaning yet. Safe: nothing is proved of what it does. -/
  | notModelled (mnemonic : String)
  /-- Raised by step: the nibbles `read` at `addr` begin no instruction of the opcode table (30_encoding.md R102). Safe: the
  hardware may go on, and no claim speaks of what it does. -/
  | unlisted (addr : Addr) (read : List Nibble)
  /-- Raised by the meaning of an instruction of level `needed` on a version of a lower level (30_encoding.md R106). Safe, as
  for `unlisted`. -/
  | aboveLevel (needed : Nat)
  /-- Raised by the meanings of `HS=0 n` and `?HS=0 n` where HS_MASK_GENERAL is false and `n` is not the mask of a listed
  instruction (30_encoding.md R100, 46_status.md R262). The decoder refuses the encoding first. Safe, as for `unlisted`. -/
  | maskNotAdmitted (n : Nibble)
  /-- Raised by step and by PC=(A), PC=(C): the nibble at `addr` is not declared readable by MEM (20_memory.md R67). Safe: a
  read there has no specified result. -/
  | unreadable (addr : Addr)
  deriving DecidableEq, Repr

/-- The three outcomes of a step on this machine. -/
abbrev Result := Host.Outcome State Fault Refusal

/-- The return stack with 00000h in every level. -/
def RStk.zero : RStk := ⟨0, 0, 0, 0, 0, 0, 0, 0⟩

/-- The machine right after reset: PC = 00000h (10_state.md R45, 70_reset_and_hazards.md R300). The spec leaves every other
register unspecified; each holds 0 here (DESIGN CHOICE, log entry 1). Memory lists nothing (R75, log entry 5), the
parameters are `Params.default` (log entry 3), and the environment is quiet (DESIGN CHOICE, log entry 4). -/
def State.reset : State where
  a := 0
  b := 0
  c := 0
  d := 0
  r0 := 0
  r1 := 0
  r2 := 0
  r3 := 0
  r4 := 0
  d0 := 0
  d1 := 0
  p := 0
  pc := 0
  inReg := 0
  outReg := 0
  carry := false
  hst := 0
  st := 0
  rstk := RStk.zero
  hexMode := false
  inte := false
  mem := []
  cfg := Params.default
  env := []

end Sys2Proof.Machine
end

