-- ==== Sys2Proof/Machine/Operands.lean ====
section
/-!
DEFINITION. The operand forms: nibble slices of a working register and the named fields (00_scope.md R9, 10_state.md R21 to
R23), the value a register test compares (42_tests_registers.md R171, R172), and the targets of relative operands
(30_encoding.md R94).
-/

namespace Sys2Proof.Machine

/-- `X{lo+d-1:lo}`: the `d` nibbles of a register from nibble `lo` on, as a number of `d` nibbles (00_scope.md R9). -/
def getNibs (x : Reg64) (lo d : Nat) : BitVec (4 * d) := x.extractLsb' (4 * lo) (4 * d)

/-- `X{lo+d-1:lo} <- v`: writes `d` nibbles and leaves every other nibble unchanged (00_scope.md R9). -/
def setNibs (x : Reg64) (lo d : Nat) (v : BitVec (4 * d)) : Reg64 :=
  (x &&& ~~~((BitVec.allOnes (4 * d)).setWidth 64 <<< (4 * lo))) ||| (v.setWidth 64 <<< (4 * lo))

/-- `X[n]`: nibble `n` of a register (00_scope.md R9). -/
def getNib (x : Reg64) (n : Nibble) : Nibble := getNibs x n.toNat 1

/-- `X[n] <- v` (00_scope.md R9). -/
def setNib (x : Reg64) (n : Nibble) (v : Nibble) : Reg64 := setNibs x n.toNat 1 v

/-- `X{A}`: field A, nibbles 4..0, the address field (10_state.md R22). -/
def fieldA (x : Reg64) : Addr := getNibs x 0 5

/-- `X{A} <- v`. -/
def setFieldA (x : Reg64) (v : Addr) : Reg64 := setNibs x 0 5 v

/-- `X{X}`: field X, nibbles 2..0 (10_state.md R22). -/
def fieldX (x : Reg64) : BitVec 12 := getNibs x 0 3

/-- `X{X} <- v`. -/
def setFieldX (x : Reg64) (v : BitVec 12) : Reg64 := setNibs x 0 3 v

/-- `lo(f)`: the lowest nibble of a field, for the value `p` of register P (10_state.md R23). -/
def fieldLo (p : Nibble) : Field → Nat
  | .p => p.toNat
  | .wp => 0
  | .xs => 2
  | .x => 0
  | .s => 15
  | .m => 3
  | .b => 0
  | .w => 0
  | .a => 0

/-- `hi(f)`: the highest nibble of a field (10_state.md R23). -/
def fieldHi (p : Nibble) : Field → Nat
  | .p => p.toNat
  | .wp => p.toNat
  | .xs => 2
  | .x => 2
  | .s => 15
  | .m => 14
  | .b => 1
  | .w => 15
  | .a => 4

/-- `d(f) = hi(f) - lo(f) + 1`: the number of nibbles of a field (10_state.md R23). -/
def fieldDigits (p : Nibble) (f : Field) : Nat := fieldHi p f - fieldLo p f + 1

/-- The four working registers, as operands of the register tests (10_state.md R20). -/
inductive WReg where
  | A
  | B
  | C
  | D
  deriving DecidableEq, Repr

/-- The content of a working register. -/
def regValue (s : State) : WReg → Reg64
  | .A => s.a
  | .B => s.b
  | .C => s.c
  | .D => s.d

/-- What a register test compares its first register with (42_tests_registers.md R172). -/
inductive TestArg where
  | reg (r : WReg)
  | zero
  deriving DecidableEq, Repr

/-- `X{f}` as the unsigned number the tests compare, the bounds of P and WP taken from the present value of register P
(42_tests_registers.md R171, R172; 10_state.md R23). -/
def fieldValue (s : State) (f : Field) (r : WReg) : Nat :=
  (getNibs (regValue s r) (fieldLo s.p f) (fieldDigits s.p f)).toNat

/-- The second operand of a register test, on the same field. -/
def argValue (s : State) (f : Field) : TestArg → Nat
  | .reg r => fieldValue s f r
  | .zero => 0

/-- The target of a relative operand: `(base + sext(off)) mod 2^20` (30_encoding.md R94, 20_memory.md R66). -/
def relTarget {w : Nat} (base : Addr) (off : BitVec w) : Addr := base + off.signExtend 20

/-- `(pc + k) mod 2^20`: with `k` the instruction's length, `next` (00_scope.md R10, 20_memory.md R66). -/
def addrPlus (pc : Addr) (k : Nat) : Addr := pc + BitVec.ofNat 20 k

end Sys2Proof.Machine
end

