-- ==== Sys2Proof/Machine/Flags.lean ====
section
/-!
DEFINITION. The computations on flags and status bits: the carry of the pointer instructions (44_pointer.md), the conditions
of the tests (42_tests_registers.md R172), single bits (45_bits.md R240), HST as a mask (10_state.md R30) and ST{R}
(10_state.md R32).
-/

namespace Sys2Proof.Machine

/-- The carry of `P=P+1`: set exactly when the increment wraps from F to 0 (44_pointer.md R232). -/
def carryOfInc (p : Nibble) : Bool := decide (p = 15#4)

/-- The carry of `P=P-1`: set exactly when the decrement borrows, from 0 to F (44_pointer.md R233). -/
def carryOfDec (p : Nibble) : Bool := decide (p = 0#4)

/-- The sum `C{A} + P + 1` of `C+P+1`, not yet reduced (44_pointer.md R234). -/
def sumCP1 (c : Addr) (p : Nibble) : Nat := c.toNat + p.toNat + 1

/-- The carry of `C+P+1`: the carry out of the 20-bit addition (44_pointer.md R234). -/
def carryOfSum (sum : Nat) : Bool := decide (2 ^ 20 ≤ sum)

/-- The relations of the register tests (42_tests_registers.md R172). -/
inductive Cmp where
  | eq
  | ne
  | gt
  | lt
  | ge
  | le
  deriving DecidableEq, Repr

/-- Whether a relation holds between two unsigned numbers (42_tests_registers.md R172: natural binary). -/
def cmpHolds (c : Cmp) (x y : Nat) : Bool :=
  match c with
  | .eq => decide (x = y)
  | .ne => decide (x ≠ y)
  | .gt => decide (y < x)
  | .lt => decide (x < y)
  | .ge => decide (y ≤ x)
  | .le => decide (x ≤ y)

/-- The number with only bit `n` set. -/
def bitMask (w : Nat) (n : Nibble) : BitVec w := 1#w <<< n.toNat

/-- Bit `n` cleared: `X AND NOT 2^n` (45_bits.md R241, 46_status.md R250). -/
def clearBit {w : Nat} (x : BitVec w) (n : Nibble) : BitVec w := x &&& ~~~(bitMask w n)

/-- Bit `n` set: `X OR 2^n` (45_bits.md R242, 46_status.md R251). -/
def setBit {w : Nat} (x : BitVec w) (n : Nibble) : BitVec w := x ||| bitMask w n

/-- Whether bit `n` is 1 (43_tests_p_st_hst_bits.md R220). -/
def bitIsSet {w : Nat} (x : BitVec w) (n : Nibble) : Bool := x.getLsbD n.toNat

/-- The masks of the four hardware status bits over HST (10_state.md R30). -/
def xmMask : Nibble := 1#4
/-- Sticky bit. -/
def sbMask : Nibble := 2#4
/-- Service request. -/
def srMask : Nibble := 4#4
/-- Module pulled. -/
def mpMask : Nibble := 8#4

/-- `HST AND NOT n`: every bit the mask selects is cleared (46_status.md R262). -/
def clearMask (hst n : Nibble) : Nibble := hst &&& ~~~n

/-- `(HST AND n) = 0`: every bit the mask selects is 0 (43_tests_p_st_hst_bits.md R219). -/
def maskIsClear (hst n : Nibble) : Bool := decide (hst &&& n = 0#4)

/-- `ST{R}`: flags B..0 as a 12-bit number, flag `i` at bit `i` (10_state.md R32). -/
def stR (st : BitVec 16) : BitVec 12 := st.extractLsb' 0 12

/-- `ST{R} <- v`: flags F..C keep their values (46_status.md R254). -/
def setStR (st : BitVec 16) (v : BitVec 12) : BitVec 16 := st.extractLsb' 12 4 ++ v

end Sys2Proof.Machine
end

