-- ==== Sys2Proof/Machine/Ops.lean ====
section
/-!
DEFINITION. The named operations that the meanings share: updates of one field, memory (00_scope.md R10, 20_memory.md R61),
the return stack (10_state.md R35), jumps, calls and returns (40_jumps.md R130, 41_subroutines.md R150, R162), the shape of
every test (42_tests_registers.md R170), interrupt entry and return (60_exceptions.md R285, R287) and what happens at the
boundary between two steps (60_exceptions.md R286).
-/

namespace Sys2Proof.Machine

/-! ## Updates of one field -/

/-- A <- v. -/
def State.setA (s : State) (v : Reg64) : State := { s with a := v }
/-- C <- v. -/
def State.setC (s : State) (v : Reg64) : State := { s with c := v }
/-- P <- v. -/
def State.setP (s : State) (v : Nibble) : State := { s with p := v }
/-- PC <- v. -/
def State.setPc (s : State) (v : Addr) : State := { s with pc := v }
/-- CARRY <- v. -/
def State.setCarry (s : State) (v : Bool) : State := { s with carry := v }
/-- HST <- v. -/
def State.setHst (s : State) (v : Nibble) : State := { s with hst := v }
/-- ST <- v. -/
def State.setSt (s : State) (v : BitVec 16) : State := { s with st := v }
/-- RSTK <- v. -/
def State.setRstk (s : State) (v : RStk) : State := { s with rstk := v }
/-- INTE <- v. -/
def State.setInte (s : State) (v : Bool) : State := { s with inte := v }
/-- The memory is replaced. -/
def State.setMem (s : State) (v : Memory) : State := { s with mem := v }
/-- The environment's coming events are replaced. -/
def State.setEnv (s : State) (v : List EnvEvent) : State := { s with env := v }
/-- `pc <- next` for an instruction of `k` nibbles (00_scope.md R10). -/
def State.advance (s : State) (k : Nat) : State := s.setPc (addrPlus s.pc k)

/-! ## Memory -/

/-- The nibble `M[addr]`, where MEM declares it readable (20_memory.md R67). -/
def Memory.read : Memory → Addr → Option Nibble
  | [], _ => none
  | (k, v) :: r, addr => if k = addr.toNat then some (v.setWidth 4) else Memory.read r addr

/-- Stores a nibble at an address, keeping the addresses strictly rising. -/
def Memory.write : Memory → Addr → Nibble → Memory
  | [], addr, n => [(addr.toNat, n.setWidth 8)]
  | (k, v) :: r, addr, n =>
    if addr.toNat < k then (addr.toNat, n.setWidth 8) :: (k, v) :: r
    else if addr.toNat = k then (k, n.setWidth 8) :: r
    else (k, v) :: Memory.write r addr n

/-- The canonical form: addresses strictly rising and below 2^20, and each cell's byte a nibble. -/
def Memory.wf (m : Memory) : Bool :=
  decide ((m.map Prod.fst).Pairwise (· < ·)) && m.all fun cell => decide (cell.1 < 2 ^ 20) && decide (cell.2.toNat < 16)

/-- The `k` nibbles at `addr`, `addr+1`, … (each modulo 2^20), or the first address that is not readable. -/
def readNibbles (m : Memory) (addr : Addr) : Nat → Except Addr (List Nibble)
  | 0 => .ok []
  | k + 1 =>
    match Memory.read m addr with
    | none => .error addr
    | some n =>
      match readNibbles m (addr + 1) k with
      | .error e => .error e
      | .ok r => .ok (n :: r)

/-- `MemRead(addr, k)`: the number whose nibble `i` is the nibble at `addr+i` (20_memory.md R61). -/
def memRead (m : Memory) (addr : Addr) (k : Nat) : Except Addr Nat :=
  match readNibbles m addr k with
  | .error e => .error e
  | .ok l => .ok (leValue l)

/-- Stores nibbles at `addr`, `addr+1`, … (each modulo 2^20). -/
def writeNibbles (m : Memory) (addr : Addr) : List Nibble → Memory
  | [] => m
  | n :: r => writeNibbles (Memory.write m addr n) (addr + 1) r

/-- `MemWrite(addr, k, v)`: nibble `i` of `v` at `addr+i` (00_scope.md R10); no instruction in scope uses it. -/
def memWrite (m : Memory) (addr : Addr) (k v : Nat) : Memory := writeNibbles m addr (nibblesLE k v)

/-- The nibbles fetched at an address: up to `k` of them, ending before the first that is not readable (20_memory.md R62, R67). -/
def fetchNibbles (m : Memory) (addr : Addr) : Nat → List Nibble
  | 0 => []
  | k + 1 =>
    match Memory.read m addr with
    | none => []
    | some n => n :: fetchNibbles m (addr + 1) k

/-- The length of the longest instruction (30_encoding.md R90). -/
def maxLength : Nat := 7

/-! ## Return stack, jumps, calls and returns -/

/-- `push(v)`: every level moves down by one and the old RSTK[7] is lost (10_state.md R35). -/
def pushStk (k : RStk) (v : Addr) : RStk := ⟨v, k.l0, k.l1, k.l2, k.l3, k.l4, k.l5, k.l6⟩

/-- What `pop()` leaves: every level moves up by one and 00000h enters at the bottom (10_state.md R35). -/
def popStk (k : RStk) : RStk := ⟨k.l1, k.l2, k.l3, k.l4, k.l5, k.l6, k.l7, 0#20⟩

/-- `push(v)` on the state. -/
def State.push (s : State) (v : Addr) : State := s.setRstk (pushStk s.rstk v)

/-- `pc <- target`. -/
def jumpTo (target : Addr) (s : State) : State := s.setPc target

/-- A call by an instruction of `k` nibbles: `push(next)`, `pc <- target` (41_subroutines.md R150). -/
def callTo (k : Nat) (target : Addr) (s : State) : State := (s.push (addrPlus s.pc k)).setPc target

/-- A return that is taken: `pc <- pop()` (41_subroutines.md R162). -/
def returnTo (s : State) : State := (s.setPc s.rstk.l0).setRstk (popStk s.rstk)

/-! ## Tests -/

/-- The suffix of a test (40_jumps.md R142, 41_subroutines.md R161), the PC at its first nibble and the test's result in CARRY: if
the test is true it jumps, from that address, or returns; else the PC moves past it. -/
def runSuffix (y : Suffix) (s : State) : State :=
  match y with
  | .goyes off => if s.carry then jumpTo (relTarget s.pc off) s else s.advance 2
  | .rtnyes => if s.carry then returnTo s else s.advance 2

/-- Every test (42_tests_registers.md R170): CARRY receives the condition, evaluated on the state before the instruction, and the
suffix at nibble `q` is run. -/
def runTest (q : Nat) (cond : Bool) (y : Suffix) (s : State) : State :=
  runSuffix y ((s.setCarry cond).advance q)

/-- A register test on a field: format TSTA or TSTF, the suffix at nibble 3 (42_tests_registers.md R170 to R172). -/
def registerTest (c : Cmp) (x : WReg) (z : TestArg) (f : Field) (y : Suffix) (s : State) : State :=
  runTest 3 (cmpHolds c (fieldValue s f x) (argValue s f z)) y s

/-! ## Levels -/

/-- An instruction of level `needed` runs on a version of that level or a higher one and is refused on a lower one
(00_scope.md R2, 30_encoding.md R106). -/
def whenLevel (needed : Nat) (s : State) (t : Result) : Result :=
  if needed ≤ s.cfg.version.level then t else .refused (.aboveLevel needed)

/-- `82n` and `83nyy` run with the masks `named` and, where HS_MASK_GENERAL is true, with every mask (30_encoding.md R100). -/
def whenMask (named : Bool) (n : Nibble) (s : State) (t : Result) : Result :=
  if s.cfg.hsMaskGeneral || named then t else .refused (.maskNotAdmitted n)

/-! ## Interrupts and the boundary between two steps -/

/-- The address every interrupt enters at (60_exceptions.md R285). -/
def interruptVector : Addr := 0x0000F#20

/-- Interrupt entry: `push(pc)`, `INTE <- 0`, `pc <- 0000Fh`, and nothing else (60_exceptions.md R285). -/
def interruptEntry (s : State) : State := ((s.push s.pc).setInte false).setPc interruptVector

/-- The return from an interrupt routine: `INTE <- 1`, `pc <- pop()` (60_exceptions.md R287, 41_subroutines.md R158). -/
def interruptReturn (s : State) : State := returnTo (s.setInte true)

/-- The environment sets HST bits, those of HST_ASYNC only, and clears none (10_state.md R39). -/
def takeHstEvent (e : EnvEvent) (s : State) : State := s.setHst (s.hst ||| (e.hstSet &&& s.cfg.hstAsync))

/-- Whether a boundary event enters the interrupt routine: INTERRUPTS = vector_0000F, INTE = 1 and a signal (60_exceptions.md R285).
A signal while INTE = 0 is not recorded (R287). -/
def interruptTaken (e : EnvEvent) (s : State) : Bool :=
  decide (s.cfg.interrupts = .vector0000F) && s.inte && e.irq

/-- One boundary event: the HST bits first, then the interrupt entry (60_exceptions.md R286). -/
def takeEvent (e : EnvEvent) (s : State) : State :=
  if interruptTaken e (takeHstEvent e s) then interruptEntry (takeHstEvent e s) else takeHstEvent e s

/-- The boundary before an instruction: the environment's next event, if there is one, is consumed and takes effect. -/
def atBoundary (s : State) : State :=
  match s.env with
  | [] => s
  | e :: rest => takeEvent e (s.setEnv rest)

end Sys2Proof.Machine
end

