-- ==== Sys2Proof/Machine/Bits.lean ====
section
/-!
DEFINITION. The meanings of the bit instructions (45_bits.md).
-/

namespace Sys2Proof.Machine

/-- `ABIT=0 n`: A <- A AND NOT 2^n (45_bits.md R241). -/
def execAbit0 (n : Nibble) (s : State) : Result :=
  whenLevel 2 s (.next ((s.setA (clearBit s.a n)).advance 5))

/-- `ABIT=1 n`: A <- A OR 2^n (45_bits.md R242). -/
def execAbit1 (n : Nibble) (s : State) : Result :=
  whenLevel 2 s (.next ((s.setA (setBit s.a n)).advance 5))

/-- `CBIT=0 n`: C <- C AND NOT 2^n (45_bits.md R243). -/
def execCbit0 (n : Nibble) (s : State) : Result :=
  whenLevel 2 s (.next ((s.setC (clearBit s.c n)).advance 5))

/-- `CBIT=1 n`: C <- C OR 2^n (45_bits.md R244). -/
def execCbit1 (n : Nibble) (s : State) : Result :=
  whenLevel 2 s (.next ((s.setC (setBit s.c n)).advance 5))

end Sys2Proof.Machine
end

