-- ==== Sys2Proof/Machine/Jumps.lean ====
section
/-!
DEFINITION. The meanings of the jump instructions (40_jumps.md). `X(A)` in a comment is field A of X.
-/

namespace Sys2Proof.Machine

/-- A jump through memory: `pc <- MemRead(ea, 5)`, refused where one of the five nibbles is not readable (40_jumps.md R136). -/
def jumpIndirect (ea : Addr) (s : State) : Result :=
  match memRead s.mem ea 5 with
  | .ok v => .next (jumpTo (BitVec.ofNat 20 v) s)
  | .error e => .refused (.unreadable e)

/-- `GOTO label`: pc <- pc + 1 + sext(off12) (40_jumps.md R131). -/
def execGoto (off : BitVec 12) (s : State) : Result :=
  .next (jumpTo (relTarget (addrPlus s.pc 1) off) s)

/-- `GOC label`: relative jump if CARRY = 1 (40_jumps.md R132). -/
def execGoc (off : BitVec 8) (s : State) : Result :=
  .next (if s.carry then jumpTo (relTarget (addrPlus s.pc 1) off) s else s.advance 3)

/-- `GONC label`: relative jump if CARRY = 0 (40_jumps.md R133). -/
def execGonc (off : BitVec 8) (s : State) : Result :=
  .next (if s.carry then s.advance 3 else jumpTo (relTarget (addrPlus s.pc 1) off) s)

/-- `GOLONG label`: pc <- pc + 2 + sext(off16) (40_jumps.md R134). -/
def execGolong (off : BitVec 16) (s : State) : Result :=
  .next (jumpTo (relTarget (addrPlus s.pc 2) off) s)

/-- `GOVLNG label`: absolute jump (40_jumps.md R135). -/
def execGovlng (addr : Addr) (s : State) : Result :=
  .next (jumpTo addr s)

/-- `PC=(A)`: pc <- MemRead(A(A), 5) (40_jumps.md R136). -/
def execPcIndA (s : State) : Result :=
  whenLevel 1 s (jumpIndirect (fieldA s.a) s)

/-- `PC=(C)`: pc <- MemRead(C(A), 5) (40_jumps.md R137). -/
def execPcIndC (s : State) : Result :=
  whenLevel 2 s (jumpIndirect (fieldA s.c) s)

/-- `PC=A`: pc <- A(A) (40_jumps.md R138). -/
def execPcFromA (s : State) : Result :=
  whenLevel 2 s (.next (jumpTo (fieldA s.a) s))

/-- `PC=C`: pc <- C(A) (40_jumps.md R139). -/
def execPcFromC (s : State) : Result :=
  whenLevel 2 s (.next (jumpTo (fieldA s.c) s))

/-- `APCEX`: exchanges next and A(A) (40_jumps.md R140). -/
def execApcex (s : State) : Result :=
  whenLevel 2 s (.next (jumpTo (fieldA s.a) (s.setA (setFieldA s.a (addrPlus s.pc 4)))))

/-- `CPCEX`: exchanges next and C(A) (40_jumps.md R141). -/
def execCpcex (s : State) : Result :=
  whenLevel 2 s (.next (jumpTo (fieldA s.c) (s.setC (setFieldA s.c (addrPlus s.pc 4)))))

/-- `GOYES label`: the suffix of a test, the PC at its first nibble and the result in CARRY (40_jumps.md R142; DEDUCED, log entry 8). -/
def execGoyes (off : BitVec 8) (s : State) : Result :=
  .next (runSuffix (.goyes off) s)

end Sys2Proof.Machine
end

