-- ==== Sys2Proof/Machine/Pointer.lean ====
section
/-!
DEFINITION. The meanings of the pointer instructions (44_pointer.md). `C(A)` in a comment is field A of C.
-/

namespace Sys2Proof.Machine

/-- `P= n`: P <- n (44_pointer.md R231). -/
def execPSet (n : Nibble) (s : State) : Result :=
  .next ((s.setP n).advance 2)

/-- `P=P+1`: P <- P + 1 mod 16, CARRY on wrap (44_pointer.md R232). -/
def execPInc (s : State) : Result :=
  .next (((s.setCarry (carryOfInc s.p)).setP (s.p + 1#4)).advance 2)

/-- `P=P-1`: P <- P - 1 mod 16, CARRY on borrow (44_pointer.md R233). -/
def execPDec (s : State) : Result :=
  .next (((s.setCarry (carryOfDec s.p)).setP (s.p - 1#4)).advance 2)

/-- `C+P+1`: C(A) <- C(A) + P + 1, CARRY the carry out (44_pointer.md R234). -/
def execCAddP1 (s : State) : Result :=
  .next (((s.setC (setFieldA s.c (BitVec.ofNat 20 (sumCP1 (fieldA s.c) s.p)))).setCarry
    (carryOfSum (sumCP1 (fieldA s.c) s.p))).advance 3)

/-- `CPEX n`: exchanges P and nibble n of C (44_pointer.md R235). -/
def execCpex (n : Nibble) (s : State) : Result :=
  .next (((s.setC (setNib s.c n s.p)).setP (getNib s.c n)).advance 4)

/-- `P=C n`: P <- nibble n of C (44_pointer.md R236). -/
def execPFromC (n : Nibble) (s : State) : Result :=
  .next ((s.setP (getNib s.c n)).advance 4)

/-- `C=P n`: nibble n of C <- P (44_pointer.md R237). -/
def execCFromP (n : Nibble) (s : State) : Result :=
  .next ((s.setC (setNib s.c n s.p)).advance 4)

end Sys2Proof.Machine
end

