-- ==== Sys2Proof/Machine/RegisterTests.lean ====
section
/-!
DEFINITION. The meanings of the 64 rows of the register tests (42_tests_registers.md). `X(f)` in a comment is field f of X.
-/

namespace Sys2Proof.Machine

/-- `?A=B A`: tests A(A) = B(A) (42_tests_registers.md R173). -/
def execEqABonA (y : Suffix) (s : State) : Result :=
  .next (registerTest .eq .A (.reg .B) .a y s)

/-- `?A=B f`: tests A(f) = B(f) (42_tests_registers.md R173). -/
def execEqABonF (f : Field) (y : Suffix) (s : State) : Result :=
  .next (registerTest .eq .A (.reg .B) f y s)

/-- `?B=C A`: tests B(A) = C(A) (42_tests_registers.md R174). -/
def execEqBConA (y : Suffix) (s : State) : Result :=
  .next (registerTest .eq .B (.reg .C) .a y s)

/-- `?B=C f`: tests B(f) = C(f) (42_tests_registers.md R174). -/
def execEqBConF (f : Field) (y : Suffix) (s : State) : Result :=
  .next (registerTest .eq .B (.reg .C) f y s)

/-- `?A=C A`: tests A(A) = C(A) (42_tests_registers.md R175). -/
def execEqAConA (y : Suffix) (s : State) : Result :=
  .next (registerTest .eq .A (.reg .C) .a y s)

/-- `?A=C f`: tests A(f) = C(f) (42_tests_registers.md R175). -/
def execEqAConF (f : Field) (y : Suffix) (s : State) : Result :=
  .next (registerTest .eq .A (.reg .C) f y s)

/-- `?C=D A`: tests C(A) = D(A) (42_tests_registers.md R176). -/
def execEqCDonA (y : Suffix) (s : State) : Result :=
  .next (registerTest .eq .C (.reg .D) .a y s)

/-- `?C=D f`: tests C(f) = D(f) (42_tests_registers.md R176). -/
def execEqCDonF (f : Field) (y : Suffix) (s : State) : Result :=
  .next (registerTest .eq .C (.reg .D) f y s)

/-- `?A#B A`: tests A(A) != B(A) (42_tests_registers.md R177). -/
def execNeABonA (y : Suffix) (s : State) : Result :=
  .next (registerTest .ne .A (.reg .B) .a y s)

/-- `?A#B f`: tests A(f) != B(f) (42_tests_registers.md R177). -/
def execNeABonF (f : Field) (y : Suffix) (s : State) : Result :=
  .next (registerTest .ne .A (.reg .B) f y s)

/-- `?B#C A`: tests B(A) != C(A) (42_tests_registers.md R178). -/
def execNeBConA (y : Suffix) (s : State) : Result :=
  .next (registerTest .ne .B (.reg .C) .a y s)

/-- `?B#C f`: tests B(f) != C(f) (42_tests_registers.md R178). -/
def execNeBConF (f : Field) (y : Suffix) (s : State) : Result :=
  .next (registerTest .ne .B (.reg .C) f y s)

/-- `?A#C A`: tests A(A) != C(A) (42_tests_registers.md R179). -/
def execNeAConA (y : Suffix) (s : State) : Result :=
  .next (registerTest .ne .A (.reg .C) .a y s)

/-- `?A#C f`: tests A(f) != C(f) (42_tests_registers.md R179). -/
def execNeAConF (f : Field) (y : Suffix) (s : State) : Result :=
  .next (registerTest .ne .A (.reg .C) f y s)

/-- `?C#D A`: tests C(A) != D(A) (42_tests_registers.md R180). -/
def execNeCDonA (y : Suffix) (s : State) : Result :=
  .next (registerTest .ne .C (.reg .D) .a y s)

/-- `?C#D f`: tests C(f) != D(f) (42_tests_registers.md R180). -/
def execNeCDonF (f : Field) (y : Suffix) (s : State) : Result :=
  .next (registerTest .ne .C (.reg .D) f y s)

/-- `?A=0 A`: tests A(A) = 0 (42_tests_registers.md R181). -/
def execEqA0onA (y : Suffix) (s : State) : Result :=
  .next (registerTest .eq .A .zero .a y s)

/-- `?A=0 f`: tests A(f) = 0 (42_tests_registers.md R181). -/
def execEqA0onF (f : Field) (y : Suffix) (s : State) : Result :=
  .next (registerTest .eq .A .zero f y s)

/-- `?B=0 A`: tests B(A) = 0 (42_tests_registers.md R182). -/
def execEqB0onA (y : Suffix) (s : State) : Result :=
  .next (registerTest .eq .B .zero .a y s)

/-- `?B=0 f`: tests B(f) = 0 (42_tests_registers.md R182). -/
def execEqB0onF (f : Field) (y : Suffix) (s : State) : Result :=
  .next (registerTest .eq .B .zero f y s)

/-- `?C=0 A`: tests C(A) = 0 (42_tests_registers.md R183). -/
def execEqC0onA (y : Suffix) (s : State) : Result :=
  .next (registerTest .eq .C .zero .a y s)

/-- `?C=0 f`: tests C(f) = 0 (42_tests_registers.md R183). -/
def execEqC0onF (f : Field) (y : Suffix) (s : State) : Result :=
  .next (registerTest .eq .C .zero f y s)

/-- `?D=0 A`: tests D(A) = 0 (42_tests_registers.md R184). -/
def execEqD0onA (y : Suffix) (s : State) : Result :=
  .next (registerTest .eq .D .zero .a y s)

/-- `?D=0 f`: tests D(f) = 0 (42_tests_registers.md R184). -/
def execEqD0onF (f : Field) (y : Suffix) (s : State) : Result :=
  .next (registerTest .eq .D .zero f y s)

/-- `?A#0 A`: tests A(A) != 0 (42_tests_registers.md R185). -/
def execNeA0onA (y : Suffix) (s : State) : Result :=
  .next (registerTest .ne .A .zero .a y s)

/-- `?A#0 f`: tests A(f) != 0 (42_tests_registers.md R185). -/
def execNeA0onF (f : Field) (y : Suffix) (s : State) : Result :=
  .next (registerTest .ne .A .zero f y s)

/-- `?B#0 A`: tests B(A) != 0 (42_tests_registers.md R186). -/
def execNeB0onA (y : Suffix) (s : State) : Result :=
  .next (registerTest .ne .B .zero .a y s)

/-- `?B#0 f`: tests B(f) != 0 (42_tests_registers.md R186). -/
def execNeB0onF (f : Field) (y : Suffix) (s : State) : Result :=
  .next (registerTest .ne .B .zero f y s)

/-- `?C#0 A`: tests C(A) != 0 (42_tests_registers.md R187). -/
def execNeC0onA (y : Suffix) (s : State) : Result :=
  .next (registerTest .ne .C .zero .a y s)

/-- `?C#0 f`: tests C(f) != 0 (42_tests_registers.md R187). -/
def execNeC0onF (f : Field) (y : Suffix) (s : State) : Result :=
  .next (registerTest .ne .C .zero f y s)

/-- `?D#0 A`: tests D(A) != 0 (42_tests_registers.md R188). -/
def execNeD0onA (y : Suffix) (s : State) : Result :=
  .next (registerTest .ne .D .zero .a y s)

/-- `?D#0 f`: tests D(f) != 0 (42_tests_registers.md R188). -/
def execNeD0onF (f : Field) (y : Suffix) (s : State) : Result :=
  .next (registerTest .ne .D .zero f y s)

/-- `?A>B A`: tests A(A) > B(A) (42_tests_registers.md R189). -/
def execGtABonA (y : Suffix) (s : State) : Result :=
  .next (registerTest .gt .A (.reg .B) .a y s)

/-- `?A>B f`: tests A(f) > B(f) (42_tests_registers.md R189). -/
def execGtABonF (f : Field) (y : Suffix) (s : State) : Result :=
  .next (registerTest .gt .A (.reg .B) f y s)

/-- `?B>C A`: tests B(A) > C(A) (42_tests_registers.md R190). -/
def execGtBConA (y : Suffix) (s : State) : Result :=
  .next (registerTest .gt .B (.reg .C) .a y s)

/-- `?B>C f`: tests B(f) > C(f) (42_tests_registers.md R190). -/
def execGtBConF (f : Field) (y : Suffix) (s : State) : Result :=
  .next (registerTest .gt .B (.reg .C) f y s)

/-- `?C>A A`: tests C(A) > A(A) (42_tests_registers.md R191). -/
def execGtCAonA (y : Suffix) (s : State) : Result :=
  .next (registerTest .gt .C (.reg .A) .a y s)

/-- `?C>A f`: tests C(f) > A(f) (42_tests_registers.md R191). -/
def execGtCAonF (f : Field) (y : Suffix) (s : State) : Result :=
  .next (registerTest .gt .C (.reg .A) f y s)

/-- `?D>C A`: tests D(A) > C(A) (42_tests_registers.md R192). -/
def execGtDConA (y : Suffix) (s : State) : Result :=
  .next (registerTest .gt .D (.reg .C) .a y s)

/-- `?D>C f`: tests D(f) > C(f) (42_tests_registers.md R192). -/
def execGtDConF (f : Field) (y : Suffix) (s : State) : Result :=
  .next (registerTest .gt .D (.reg .C) f y s)

/-- `?A<B A`: tests A(A) < B(A) (42_tests_registers.md R193). -/
def execLtABonA (y : Suffix) (s : State) : Result :=
  .next (registerTest .lt .A (.reg .B) .a y s)

/-- `?A<B f`: tests A(f) < B(f) (42_tests_registers.md R193). -/
def execLtABonF (f : Field) (y : Suffix) (s : State) : Result :=
  .next (registerTest .lt .A (.reg .B) f y s)

/-- `?B<C A`: tests B(A) < C(A) (42_tests_registers.md R194). -/
def execLtBConA (y : Suffix) (s : State) : Result :=
  .next (registerTest .lt .B (.reg .C) .a y s)

/-- `?B<C f`: tests B(f) < C(f) (42_tests_registers.md R194). -/
def execLtBConF (f : Field) (y : Suffix) (s : State) : Result :=
  .next (registerTest .lt .B (.reg .C) f y s)

/-- `?C<A A`: tests C(A) < A(A) (42_tests_registers.md R195). -/
def execLtCAonA (y : Suffix) (s : State) : Result :=
  .next (registerTest .lt .C (.reg .A) .a y s)

/-- `?C<A f`: tests C(f) < A(f) (42_tests_registers.md R195). -/
def execLtCAonF (f : Field) (y : Suffix) (s : State) : Result :=
  .next (registerTest .lt .C (.reg .A) f y s)

/-- `?D<C A`: tests D(A) < C(A) (42_tests_registers.md R196). -/
def execLtDConA (y : Suffix) (s : State) : Result :=
  .next (registerTest .lt .D (.reg .C) .a y s)

/-- `?D<C f`: tests D(f) < C(f) (42_tests_registers.md R196). -/
def execLtDConF (f : Field) (y : Suffix) (s : State) : Result :=
  .next (registerTest .lt .D (.reg .C) f y s)

/-- `?A>=B A`: tests A(A) >= B(A) (42_tests_registers.md R197). -/
def execGeABonA (y : Suffix) (s : State) : Result :=
  .next (registerTest .ge .A (.reg .B) .a y s)

/-- `?A>=B f`: tests A(f) >= B(f) (42_tests_registers.md R197). -/
def execGeABonF (f : Field) (y : Suffix) (s : State) : Result :=
  .next (registerTest .ge .A (.reg .B) f y s)

/-- `?B>=C A`: tests B(A) >= C(A) (42_tests_registers.md R198). -/
def execGeBConA (y : Suffix) (s : State) : Result :=
  .next (registerTest .ge .B (.reg .C) .a y s)

/-- `?B>=C f`: tests B(f) >= C(f) (42_tests_registers.md R198). -/
def execGeBConF (f : Field) (y : Suffix) (s : State) : Result :=
  .next (registerTest .ge .B (.reg .C) f y s)

/-- `?C>=A A`: tests C(A) >= A(A) (42_tests_registers.md R199). -/
def execGeCAonA (y : Suffix) (s : State) : Result :=
  .next (registerTest .ge .C (.reg .A) .a y s)

/-- `?C>=A f`: tests C(f) >= A(f) (42_tests_registers.md R199). -/
def execGeCAonF (f : Field) (y : Suffix) (s : State) : Result :=
  .next (registerTest .ge .C (.reg .A) f y s)

/-- `?D>=C A`: tests D(A) >= C(A) (42_tests_registers.md R200). -/
def execGeDConA (y : Suffix) (s : State) : Result :=
  .next (registerTest .ge .D (.reg .C) .a y s)

/-- `?D>=C f`: tests D(f) >= C(f) (42_tests_registers.md R200). -/
def execGeDConF (f : Field) (y : Suffix) (s : State) : Result :=
  .next (registerTest .ge .D (.reg .C) f y s)

/-- `?A<=B A`: tests A(A) <= B(A) (42_tests_registers.md R201). -/
def execLeABonA (y : Suffix) (s : State) : Result :=
  .next (registerTest .le .A (.reg .B) .a y s)

/-- `?A<=B f`: tests A(f) <= B(f) (42_tests_registers.md R201). -/
def execLeABonF (f : Field) (y : Suffix) (s : State) : Result :=
  .next (registerTest .le .A (.reg .B) f y s)

/-- `?B<=C A`: tests B(A) <= C(A) (42_tests_registers.md R202). -/
def execLeBConA (y : Suffix) (s : State) : Result :=
  .next (registerTest .le .B (.reg .C) .a y s)

/-- `?B<=C f`: tests B(f) <= C(f) (42_tests_registers.md R202). -/
def execLeBConF (f : Field) (y : Suffix) (s : State) : Result :=
  .next (registerTest .le .B (.reg .C) f y s)

/-- `?C<=A A`: tests C(A) <= A(A) (42_tests_registers.md R203). -/
def execLeCAonA (y : Suffix) (s : State) : Result :=
  .next (registerTest .le .C (.reg .A) .a y s)

/-- `?C<=A f`: tests C(f) <= A(f) (42_tests_registers.md R203). -/
def execLeCAonF (f : Field) (y : Suffix) (s : State) : Result :=
  .next (registerTest .le .C (.reg .A) f y s)

/-- `?D<=C A`: tests D(A) <= C(A) (42_tests_registers.md R204). -/
def execLeDConA (y : Suffix) (s : State) : Result :=
  .next (registerTest .le .D (.reg .C) .a y s)

/-- `?D<=C f`: tests D(f) <= C(f) (42_tests_registers.md R204). -/
def execLeDConF (f : Field) (y : Suffix) (s : State) : Result :=
  .next (registerTest .le .D (.reg .C) f y s)

end Sys2Proof.Machine
end

