-- ==== Sys2Proof/Machine/StateTests.lean ====
section
/-!
DEFINITION. The meanings of the tests of P, ST, HST and register bits (43_tests_p_st_hst_bits.md).
-/

namespace Sys2Proof.Machine

/-- `?P= n`: tests P = n (43_tests_p_st_hst_bits.md R210). -/
def execTstPEq (n : Nibble) (y : Suffix) (s : State) : Result :=
  .next (runTest 3 (decide (s.p = n)) y s)

/-- `?P# n`: tests P != n (43_tests_p_st_hst_bits.md R211). -/
def execTstPNe (n : Nibble) (y : Suffix) (s : State) : Result :=
  .next (runTest 3 (decide (s.p ≠ n)) y s)

/-- `?ST=0 n`: tests ST[n] = 0 (43_tests_p_st_hst_bits.md R212). -/
def execTstSt0 (n : Nibble) (y : Suffix) (s : State) : Result :=
  .next (runTest 3 (!bitIsSet s.st n) y s)

/-- `?ST=1 n`: tests ST[n] = 1 (43_tests_p_st_hst_bits.md R213). -/
def execTstSt1 (n : Nibble) (y : Suffix) (s : State) : Result :=
  .next (runTest 3 (bitIsSet s.st n) y s)

/-- `?XM=0`: tests XM = 0 (43_tests_p_st_hst_bits.md R214). -/
def execTstXm0 (y : Suffix) (s : State) : Result :=
  .next (runTest 3 (maskIsClear s.hst xmMask) y s)

/-- `?SB=0`: tests SB = 0 (43_tests_p_st_hst_bits.md R215). -/
def execTstSb0 (y : Suffix) (s : State) : Result :=
  .next (runTest 3 (maskIsClear s.hst sbMask) y s)

/-- `?SR=0`: tests SR = 0 (43_tests_p_st_hst_bits.md R216). -/
def execTstSr0 (y : Suffix) (s : State) : Result :=
  .next (runTest 3 (maskIsClear s.hst srMask) y s)

/-- `?MP=0`: tests MP = 0 (43_tests_p_st_hst_bits.md R217). -/
def execTstMp0 (y : Suffix) (s : State) : Result :=
  .next (runTest 3 (maskIsClear s.hst mpMask) y s)

/-- `?HS=0 n`: tests (HST AND n) = 0 (43_tests_p_st_hst_bits.md R219). -/
def execTstHs0 (n : Nibble) (y : Suffix) (s : State) : Result :=
  whenMask (namedTest n) n s (.next (runTest 3 (maskIsClear s.hst n) y s))

/-- `?ABIT=0 n`: tests bit n of A = 0 (43_tests_p_st_hst_bits.md R220, R224). -/
def execTstAbit0 (n : Nibble) (y : Suffix) (s : State) : Result :=
  whenLevel 2 s (.next (runTest 5 (!bitIsSet s.a n) y s))

/-- `?ABIT=1 n`: tests bit n of A = 1 (43_tests_p_st_hst_bits.md R221, R224). -/
def execTstAbit1 (n : Nibble) (y : Suffix) (s : State) : Result :=
  whenLevel 2 s (.next (runTest 5 (bitIsSet s.a n) y s))

/-- `?CBIT=0 n`: tests bit n of C = 0 (43_tests_p_st_hst_bits.md R222, R224). -/
def execTstCbit0 (n : Nibble) (y : Suffix) (s : State) : Result :=
  whenLevel 2 s (.next (runTest 5 (!bitIsSet s.c n) y s))

/-- `?CBIT=1 n`: tests bit n of C = 1 (43_tests_p_st_hst_bits.md R223, R224). -/
def execTstCbit1 (n : Nibble) (y : Suffix) (s : State) : Result :=
  whenLevel 2 s (.next (runTest 5 (bitIsSet s.c n) y s))

end Sys2Proof.Machine
end

