-- ==== Sys2Proof/Machine/Status.lean ====
section
/-!
DEFINITION. The meanings of the status instructions (46_status.md). `C(X)` in a comment is field X of C.
-/

namespace Sys2Proof.Machine

/-- `ST=0 n`: ST[n] <- 0 (46_status.md R250; 90_conflicts.md C2). -/
def execSt0 (n : Nibble) (s : State) : Result :=
  .next ((s.setSt (clearBit s.st n)).advance 3)

/-- `ST=1 n`: ST[n] <- 1 (46_status.md R251; 90_conflicts.md C2). -/
def execSt1 (n : Nibble) (s : State) : Result :=
  .next ((s.setSt (setBit s.st n)).advance 3)

/-- `CSTEX`: exchanges ST(R) and C(X) (46_status.md R252). -/
def execCstex (s : State) : Result :=
  .next (((s.setC (setFieldX s.c (stR s.st))).setSt (setStR s.st (fieldX s.c))).advance 2)

/-- `C=ST`: C(X) <- ST(R) (46_status.md R253). -/
def execCFromSt (s : State) : Result :=
  .next ((s.setC (setFieldX s.c (stR s.st))).advance 2)

/-- `ST=C`: ST(R) <- C(X) (46_status.md R254). -/
def execStFromC (s : State) : Result :=
  .next ((s.setSt (setStR s.st (fieldX s.c))).advance 2)

/-- `CLRST`: ST(R) <- 000h (46_status.md R255). -/
def execClrst (s : State) : Result :=
  .next ((s.setSt (setStR s.st 0#12)).advance 2)

/-- `XM=0`: XM <- 0 (46_status.md R256). -/
def execXm0 (s : State) : Result :=
  .next ((s.setHst (clearMask s.hst xmMask)).advance 3)

/-- `SB=0`: SB <- 0 (46_status.md R257). -/
def execSb0 (s : State) : Result :=
  .next ((s.setHst (clearMask s.hst sbMask)).advance 3)

/-- `SR=0`: SR <- 0 (46_status.md R258). -/
def execSr0 (s : State) : Result :=
  .next ((s.setHst (clearMask s.hst srMask)).advance 3)

/-- `MP=0`: MP <- 0 (46_status.md R259). -/
def execMp0 (s : State) : Result :=
  .next ((s.setHst (clearMask s.hst mpMask)).advance 3)

/-- `CLRHS`: HST <- 0000b (46_status.md R260). -/
def execClrhs (s : State) : Result :=
  .next ((s.setHst 0#4).advance 3)

/-- `HS=0 n`: HST <- HST AND NOT n (46_status.md R262). -/
def execHs0 (n : Nibble) (s : State) : Result :=
  whenMask (namedClear n) n s (.next ((s.setHst (clearMask s.hst n)).advance 3))

end Sys2Proof.Machine
end

