-- ==== Sys2Proof/Machine/Subroutines.lean ====
section
/-!
DEFINITION. The meanings of the call and return instructions (41_subroutines.md).
-/

namespace Sys2Proof.Machine

/-- `GOSUB label`: push(pc + 4), pc <- pc + 4 + sext(off12) (41_subroutines.md R151). -/
def execGosub (off : BitVec 12) (s : State) : Result :=
  .next (callTo 4 (relTarget (addrPlus s.pc 4) off) s)

/-- `GOSUBL label`: push(pc + 6), pc <- pc + 6 + sext(off16) (41_subroutines.md R152). -/
def execGosubl (off : BitVec 16) (s : State) : Result :=
  .next (callTo 6 (relTarget (addrPlus s.pc 6) off) s)

/-- `GOSBVL label`: push(pc + 7), pc <- addr20 (41_subroutines.md R153). -/
def execGosbvl (addr : Addr) (s : State) : Result :=
  .next (callTo 7 addr s)

/-- `RTN`: pc <- pop() (41_subroutines.md R154). -/
def execRtn (s : State) : Result :=
  .next (returnTo s)

/-- `RTNSC`: CARRY <- 1 and return (41_subroutines.md R155). -/
def execRtnsc (s : State) : Result :=
  .next (returnTo (s.setCarry true))

/-- `RTNCC`: CARRY <- 0 and return (41_subroutines.md R156). -/
def execRtncc (s : State) : Result :=
  .next (returnTo (s.setCarry false))

/-- `RTNSXM`: XM <- 1 and return (41_subroutines.md R157). -/
def execRtnsxm (s : State) : Result :=
  .next (returnTo (s.setHst (s.hst ||| xmMask)))

/-- `RTI`: INTE <- 1 and return (41_subroutines.md R158). -/
def execRti (s : State) : Result :=
  .next (interruptReturn s)

/-- `RTNC`: return if CARRY = 1 (41_subroutines.md R159). -/
def execRtnc (s : State) : Result :=
  .next (if s.carry then returnTo s else s.advance 3)

/-- `RTNNC`: return if CARRY = 0 (41_subroutines.md R160). -/
def execRtnnc (s : State) : Result :=
  .next (if s.carry then s.advance 3 else returnTo s)

/-- `RTNYES`: the suffix of a test, the PC at its first nibble and the result in CARRY (41_subroutines.md R161; DEDUCED, log entry 8). -/
def execRtnyes (s : State) : Result :=
  .next (runSuffix .rtnyes s)

end Sys2Proof.Machine
end

