-- ==== Sys2Proof/Machine/Dispatch.lean ====
section
/-!
DEFINITION. One arm per constructor of `Instr`, each one direct call of the instruction's meaning.
-/

namespace Sys2Proof.Machine

def exec (i : Instr) (s : State) : Host.Outcome State Fault Refusal :=
  match i with
  | .rtnsxm => Sys2Proof.Machine.execRtnsxm s
  | .rtn => Sys2Proof.Machine.execRtn s
  | .rtnsc => Sys2Proof.Machine.execRtnsc s
  | .rtncc => Sys2Proof.Machine.execRtncc s
  | .clrst => Sys2Proof.Machine.execClrst s
  | .cFromSt => Sys2Proof.Machine.execCFromSt s
  | .stFromC => Sys2Proof.Machine.execStFromC s
  | .cstex => Sys2Proof.Machine.execCstex s
  | .pInc => Sys2Proof.Machine.execPInc s
  | .pDec => Sys2Proof.Machine.execPDec s
  | .rti => Sys2Proof.Machine.execRti s
  | .pSet n => Sys2Proof.Machine.execPSet n s
  | .goc off => Sys2Proof.Machine.execGoc off s
  | .rtnc => Sys2Proof.Machine.execRtnc s
  | .gonc off => Sys2Proof.Machine.execGonc off s
  | .rtnnc => Sys2Proof.Machine.execRtnnc s
  | .goto off => Sys2Proof.Machine.execGoto off s
  | .gosub off => Sys2Proof.Machine.execGosub off s
  | .cAddP1 => Sys2Proof.Machine.execCAddP1 s
  | .cFromP n => Sys2Proof.Machine.execCFromP n s
  | .pFromC n => Sys2Proof.Machine.execPFromC n s
  | .cpex n => Sys2Proof.Machine.execCpex n s
  | .abit0 n => Sys2Proof.Machine.execAbit0 n s
  | .abit1 n => Sys2Proof.Machine.execAbit1 n s
  | .tstAbit0 n y => Sys2Proof.Machine.execTstAbit0 n y s
  | .tstAbit1 n y => Sys2Proof.Machine.execTstAbit1 n y s
  | .cbit0 n => Sys2Proof.Machine.execCbit0 n s
  | .cbit1 n => Sys2Proof.Machine.execCbit1 n s
  | .tstCbit0 n y => Sys2Proof.Machine.execTstCbit0 n y s
  | .tstCbit1 n y => Sys2Proof.Machine.execTstCbit1 n y s
  | .pcIndA => Sys2Proof.Machine.execPcIndA s
  | .pcIndC => Sys2Proof.Machine.execPcIndC s
  | .pcFromA => Sys2Proof.Machine.execPcFromA s
  | .pcFromC => Sys2Proof.Machine.execPcFromC s
  | .apcex => Sys2Proof.Machine.execApcex s
  | .cpcex => Sys2Proof.Machine.execCpcex s
  | .hs0 n => Sys2Proof.Machine.execHs0 n s
  | .xm0 => Sys2Proof.Machine.execXm0 s
  | .sb0 => Sys2Proof.Machine.execSb0 s
  | .sr0 => Sys2Proof.Machine.execSr0 s
  | .mp0 => Sys2Proof.Machine.execMp0 s
  | .clrhs => Sys2Proof.Machine.execClrhs s
  | .tstHs0 n y => Sys2Proof.Machine.execTstHs0 n y s
  | .tstXm0 y => Sys2Proof.Machine.execTstXm0 y s
  | .tstSb0 y => Sys2Proof.Machine.execTstSb0 y s
  | .tstSr0 y => Sys2Proof.Machine.execTstSr0 y s
  | .tstMp0 y => Sys2Proof.Machine.execTstMp0 y s
  | .st0 n => Sys2Proof.Machine.execSt0 n s
  | .st1 n => Sys2Proof.Machine.execSt1 n s
  | .tstSt0 n y => Sys2Proof.Machine.execTstSt0 n y s
  | .tstSt1 n y => Sys2Proof.Machine.execTstSt1 n y s
  | .tstPNe n y => Sys2Proof.Machine.execTstPNe n y s
  | .tstPEq n y => Sys2Proof.Machine.execTstPEq n y s
  | .eqABonA y => Sys2Proof.Machine.execEqABonA y s
  | .eqABonF f y => Sys2Proof.Machine.execEqABonF f y s
  | .eqBConA y => Sys2Proof.Machine.execEqBConA y s
  | .eqBConF f y => Sys2Proof.Machine.execEqBConF f y s
  | .eqAConA y => Sys2Proof.Machine.execEqAConA y s
  | .eqAConF f y => Sys2Proof.Machine.execEqAConF f y s
  | .eqCDonA y => Sys2Proof.Machine.execEqCDonA y s
  | .eqCDonF f y => Sys2Proof.Machine.execEqCDonF f y s
  | .neABonA y => Sys2Proof.Machine.execNeABonA y s
  | .neABonF f y => Sys2Proof.Machine.execNeABonF f y s
  | .neBConA y => Sys2Proof.Machine.execNeBConA y s
  | .neBConF f y => Sys2Proof.Machine.execNeBConF f y s
  | .neAConA y => Sys2Proof.Machine.execNeAConA y s
  | .neAConF f y => Sys2Proof.Machine.execNeAConF f y s
  | .neCDonA y => Sys2Proof.Machine.execNeCDonA y s
  | .neCDonF f y => Sys2Proof.Machine.execNeCDonF f y s
  | .eqA0onA y => Sys2Proof.Machine.execEqA0onA y s
  | .eqA0onF f y => Sys2Proof.Machine.execEqA0onF f y s
  | .eqB0onA y => Sys2Proof.Machine.execEqB0onA y s
  | .eqB0onF f y => Sys2Proof.Machine.execEqB0onF f y s
  | .eqC0onA y => Sys2Proof.Machine.execEqC0onA y s
  | .eqC0onF f y => Sys2Proof.Machine.execEqC0onF f y s
  | .eqD0onA y => Sys2Proof.Machine.execEqD0onA y s
  | .eqD0onF f y => Sys2Proof.Machine.execEqD0onF f y s
  | .neA0onA y => Sys2Proof.Machine.execNeA0onA y s
  | .neA0onF f y => Sys2Proof.Machine.execNeA0onF f y s
  | .neB0onA y => Sys2Proof.Machine.execNeB0onA y s
  | .neB0onF f y => Sys2Proof.Machine.execNeB0onF f y s
  | .neC0onA y => Sys2Proof.Machine.execNeC0onA y s
  | .neC0onF f y => Sys2Proof.Machine.execNeC0onF f y s
  | .neD0onA y => Sys2Proof.Machine.execNeD0onA y s
  | .neD0onF f y => Sys2Proof.Machine.execNeD0onF f y s
  | .gtABonA y => Sys2Proof.Machine.execGtABonA y s
  | .gtABonF f y => Sys2Proof.Machine.execGtABonF f y s
  | .gtBConA y => Sys2Proof.Machine.execGtBConA y s
  | .gtBConF f y => Sys2Proof.Machine.execGtBConF f y s
  | .gtCAonA y => Sys2Proof.Machine.execGtCAonA y s
  | .gtCAonF f y => Sys2Proof.Machine.execGtCAonF f y s
  | .gtDConA y => Sys2Proof.Machine.execGtDConA y s
  | .gtDConF f y => Sys2Proof.Machine.execGtDConF f y s
  | .ltABonA y => Sys2Proof.Machine.execLtABonA y s
  | .ltABonF f y => Sys2Proof.Machine.execLtABonF f y s
  | .ltBConA y => Sys2Proof.Machine.execLtBConA y s
  | .ltBConF f y => Sys2Proof.Machine.execLtBConF f y s
  | .ltCAonA y => Sys2Proof.Machine.execLtCAonA y s
  | .ltCAonF f y => Sys2Proof.Machine.execLtCAonF f y s
  | .ltDConA y => Sys2Proof.Machine.execLtDConA y s
  | .ltDConF f y => Sys2Proof.Machine.execLtDConF f y s
  | .geABonA y => Sys2Proof.Machine.execGeABonA y s
  | .geABonF f y => Sys2Proof.Machine.execGeABonF f y s
  | .geBConA y => Sys2Proof.Machine.execGeBConA y s
  | .geBConF f y => Sys2Proof.Machine.execGeBConF f y s
  | .geCAonA y => Sys2Proof.Machine.execGeCAonA y s
  | .geCAonF f y => Sys2Proof.Machine.execGeCAonF f y s
  | .geDConA y => Sys2Proof.Machine.execGeDConA y s
  | .geDConF f y => Sys2Proof.Machine.execGeDConF f y s
  | .leABonA y => Sys2Proof.Machine.execLeABonA y s
  | .leABonF f y => Sys2Proof.Machine.execLeABonF f y s
  | .leBConA y => Sys2Proof.Machine.execLeBConA y s
  | .leBConF f y => Sys2Proof.Machine.execLeBConF f y s
  | .leCAonA y => Sys2Proof.Machine.execLeCAonA y s
  | .leCAonF f y => Sys2Proof.Machine.execLeCAonF f y s
  | .leDConA y => Sys2Proof.Machine.execLeDConA y s
  | .leDConF f y => Sys2Proof.Machine.execLeDConF f y s
  | .golong off => Sys2Proof.Machine.execGolong off s
  | .govlng addr => Sys2Proof.Machine.execGovlng addr s
  | .gosubl off => Sys2Proof.Machine.execGosubl off s
  | .gosbvl addr => Sys2Proof.Machine.execGosbvl addr s
  | .goyes off => Sys2Proof.Machine.execGoyes off s
  | .rtnyes => Sys2Proof.Machine.execRtnyes s

end Sys2Proof.Machine
end

