-- ==== Sys2Proof/Machine/Fetch.lean ====
section
/-!
DEFINITION. Fetching and running the instruction at the PC (00_scope.md R11, 20_memory.md R62), and placing one there.
-/

namespace Sys2Proof.Machine

/-- What the decoder finds at the PC: at most the nibbles of the longest instruction are fetched, and none from the first
unreadable one on (20_memory.md R62, R67). -/
def fetched (s : State) : Decoded := decode s.cfg.hsMaskGeneral (fetchNibbles s.mem s.pc maxLength)

/-- The step of a state whose boundary has passed. The refusal is the first condition met while reading in address order: an
unreadable nibble, an unlisted encoding, then (in the meaning) the level (60_exceptions.md R281, D37). -/
def stepAfterBoundary (s : State) : Result :=
  match fetched s with
  | .ok i => exec i s
  | .unlisted read => .refused (.unlisted s.pc read)
  | .short => .refused (.unreadable (addrPlus s.pc (fetchNibbles s.mem s.pc maxLength).length))

/-- The address the next step fetches from: the PC after the boundary, which is the interrupt vector where the next event
enters it (60_exceptions.md R285). -/
def fetchAddr (s : State) : Addr := (atBoundary s).pc

/-- `s` with nibbles stored from the address the next step fetches from on. -/
def placeNibbles (s : State) (l : List Nibble) : State := s.setMem (writeNibbles s.mem (fetchAddr s) l)

end Sys2Proof.Machine
end

