-- ==== Sys2Proof/Machine/Step.lean ====
section
/-!
DEFINITION. One step (00_scope.md R11): the boundary (60_exceptions.md R286), then the instruction at the PC. And where the
host places an instruction that the very next step is to run.
-/

namespace Sys2Proof.Machine

/-- One step of the machine. -/
def step (s : State) : Host.Outcome State Fault Refusal := stepAfterBoundary (atBoundary s)

/-- `s` with a word's instruction stored where the next step fetches it. Nothing else changes (log entries 5 and 7). -/
def State.withFetchWord (s : State) (nbits w : Nat) : State := placeNibbles s (wordNibbles nbits w)

end Sys2Proof.Machine
end

