-- ==== Sys2Proof/Machine/Assemble.lean ====
section
/-!
DEFINITION. The assembler's side (30_encoding.md R108 to R110): the spelling of each instruction and its aliases, and the operand a
label becomes. The machine does not depend on it.
-/

namespace Sys2Proof.Machine

/-- A hexadecimal digit as the source writes it. -/
def digitText (n : Nibble) : String :=
  match n.toNat with
  | 0 => "0"
  | 1 => "1"
  | 2 => "2"
  | 3 => "3"
  | 4 => "4"
  | 5 => "5"
  | 6 => "6"
  | 7 => "7"
  | 8 => "8"
  | 9 => "9"
  | 10 => "A"
  | 11 => "B"
  | 12 => "C"
  | 13 => "D"
  | 14 => "E"
  | _ => "F"

/-- A field symbol as the source writes it (10_state.md R21). -/
def fieldText : Field → String
  | .p => "P"
  | .wp => "WP"
  | .xs => "XS"
  | .x => "X"
  | .s => "S"
  | .m => "M"
  | .b => "B"
  | .w => "W"
  | .a => "A"

/-- The mnemonic, in its first-listed spelling (30_encoding.md R108). -/
def mnemonicText : Instr → String
  | .rtnsxm => "RTNSXM"
  | .rtn => "RTN"
  | .rtnsc => "RTNSC"
  | .rtncc => "RTNCC"
  | .clrst => "CLRST"
  | .cFromSt => "C=ST"
  | .stFromC => "ST=C"
  | .cstex => "CSTEX"
  | .pInc => "P=P+1"
  | .pDec => "P=P-1"
  | .rti => "RTI"
  | .pSet _ => "P="
  | .goc _ => "GOC"
  | .rtnc => "RTNC"
  | .gonc _ => "GONC"
  | .rtnnc => "RTNNC"
  | .goto _ => "GOTO"
  | .gosub _ => "GOSUB"
  | .cAddP1 => "C+P+1"
  | .cFromP _ => "C=P"
  | .pFromC _ => "P=C"
  | .cpex _ => "CPEX"
  | .abit0 _ => "ABIT=0"
  | .abit1 _ => "ABIT=1"
  | .tstAbit0 _ _ => "?ABIT=0"
  | .tstAbit1 _ _ => "?ABIT=1"
  | .cbit0 _ => "CBIT=0"
  | .cbit1 _ => "CBIT=1"
  | .tstCbit0 _ _ => "?CBIT=0"
  | .tstCbit1 _ _ => "?CBIT=1"
  | .pcIndA => "PC=(A)"
  | .pcIndC => "PC=(C)"
  | .pcFromA => "PC=A"
  | .pcFromC => "PC=C"
  | .apcex => "APCEX"
  | .cpcex => "CPCEX"
  | .hs0 _ => "HS=0"
  | .xm0 => "XM=0"
  | .sb0 => "SB=0"
  | .sr0 => "SR=0"
  | .mp0 => "MP=0"
  | .clrhs => "CLRHS"
  | .tstHs0 _ _ => "?HS=0"
  | .tstXm0 _ => "?XM=0"
  | .tstSb0 _ => "?SB=0"
  | .tstSr0 _ => "?SR=0"
  | .tstMp0 _ => "?MP=0"
  | .st0 _ => "ST=0"
  | .st1 _ => "ST=1"
  | .tstSt0 _ _ => "?ST=0"
  | .tstSt1 _ _ => "?ST=1"
  | .tstPNe _ _ => "?P#"
  | .tstPEq _ _ => "?P="
  | .eqABonA _ | .eqABonF _ _ => "?A=B"
  | .eqBConA _ | .eqBConF _ _ => "?B=C"
  | .eqAConA _ | .eqAConF _ _ => "?A=C"
  | .eqCDonA _ | .eqCDonF _ _ => "?C=D"
  | .neABonA _ | .neABonF _ _ => "?A#B"
  | .neBConA _ | .neBConF _ _ => "?B#C"
  | .neAConA _ | .neAConF _ _ => "?A#C"
  | .neCDonA _ | .neCDonF _ _ => "?C#D"
  | .eqA0onA _ | .eqA0onF _ _ => "?A=0"
  | .eqB0onA _ | .eqB0onF _ _ => "?B=0"
  | .eqC0onA _ | .eqC0onF _ _ => "?C=0"
  | .eqD0onA _ | .eqD0onF _ _ => "?D=0"
  | .neA0onA _ | .neA0onF _ _ => "?A#0"
  | .neB0onA _ | .neB0onF _ _ => "?B#0"
  | .neC0onA _ | .neC0onF _ _ => "?C#0"
  | .neD0onA _ | .neD0onF _ _ => "?D#0"
  | .gtABonA _ | .gtABonF _ _ => "?A>B"
  | .gtBConA _ | .gtBConF _ _ => "?B>C"
  | .gtCAonA _ | .gtCAonF _ _ => "?C>A"
  | .gtDConA _ | .gtDConF _ _ => "?D>C"
  | .ltABonA _ | .ltABonF _ _ => "?A<B"
  | .ltBConA _ | .ltBConF _ _ => "?B<C"
  | .ltCAonA _ | .ltCAonF _ _ => "?C<A"
  | .ltDConA _ | .ltDConF _ _ => "?D<C"
  | .geABonA _ | .geABonF _ _ => "?A>=B"
  | .geBConA _ | .geBConF _ _ => "?B>=C"
  | .geCAonA _ | .geCAonF _ _ => "?C>=A"
  | .geDConA _ | .geDConF _ _ => "?D>=C"
  | .leABonA _ | .leABonF _ _ => "?A<=B"
  | .leBConA _ | .leBConF _ _ => "?B<=C"
  | .leCAonA _ | .leCAonF _ _ => "?C<=A"
  | .leDConA _ | .leDConF _ _ => "?D<=C"
  | .golong _ => "GOLONG"
  | .govlng _ => "GOVLNG"
  | .gosubl _ => "GOSUBL"
  | .gosbvl _ => "GOSBVL"
  | .goyes _ => "GOYES"
  | .rtnyes => "RTNYES"

/-- The operand written after the mnemonic, for the operand kinds `h` and `chp`; a label is written by its name, which no
instruction holds (30_encoding.md R108). -/
def operandText : Instr → Option String
  | .rtnsxm | .rtn | .rtnsc | .rtncc | .clrst | .cFromSt | .stFromC | .cstex | .pInc | .pDec | .rti | .goc _
  | .rtnc | .gonc _ | .rtnnc | .goto _ | .gosub _ | .cAddP1 | .pcIndA | .pcIndC | .pcFromA | .pcFromC
  | .apcex | .cpcex | .xm0 | .sb0 | .sr0 | .mp0 | .clrhs | .tstXm0 _ | .tstSb0 _ | .tstSr0 _ | .tstMp0 _
  | .golong _ | .govlng _ | .gosubl _ | .gosbvl _ | .goyes _ | .rtnyes => none
  | .pSet n | .cFromP n | .pFromC n | .cpex n | .abit0 n | .abit1 n | .tstAbit0 n _ | .tstAbit1 n _
  | .cbit0 n | .cbit1 n | .tstCbit0 n _ | .tstCbit1 n _ | .hs0 n | .tstHs0 n _ | .st0 n | .st1 n
  | .tstSt0 n _ | .tstSt1 n _ | .tstPNe n _ | .tstPEq n _ => some (digitText n)
  | .eqABonA _ | .eqBConA _ | .eqAConA _ | .eqCDonA _ | .neABonA _ | .neBConA _ | .neAConA _ | .neCDonA _
  | .eqA0onA _ | .eqB0onA _ | .eqC0onA _ | .eqD0onA _ | .neA0onA _ | .neB0onA _ | .neC0onA _ | .neD0onA _
  | .gtABonA _ | .gtBConA _ | .gtCAonA _ | .gtDConA _ | .ltABonA _ | .ltBConA _ | .ltCAonA _ | .ltDConA _
  | .geABonA _ | .geBConA _ | .geCAonA _ | .geDConA _ | .leABonA _ | .leBConA _ | .leCAonA _ | .leDConA _ => some (fieldText .a)
  | .eqABonF f _ | .eqBConF f _ | .eqAConF f _ | .eqCDonF f _ | .neABonF f _ | .neBConF f _ | .neAConF f _
  | .neCDonF f _ | .eqA0onF f _ | .eqB0onF f _ | .eqC0onF f _ | .eqD0onF f _ | .neA0onF f _ | .neB0onF f _
  | .neC0onF f _ | .neD0onF f _ | .gtABonF f _ | .gtBConF f _ | .gtCAonF f _ | .gtDConF f _ | .ltABonF f _
  | .ltBConF f _ | .ltCAonF f _ | .ltDConF f _ | .geABonF f _ | .geBConF f _ | .geCAonF f _ | .geDConF f _
  | .leABonF f _ | .leBConF f _ | .leCAonF f _ | .leDConF f _ => some (fieldText f)

/-- The other spellings of the mnemonic (30_encoding.md R109). -/
def aliasTexts : Instr → List String
  | .rtnsxm | .rtn | .rtnsc | .rtncc | .clrst | .cFromSt | .stFromC | .cstex | .pInc | .pDec | .rti
  | .pSet _ | .goc _ | .rtnc | .gonc _ | .rtnnc | .goto _ | .gosub _ | .cFromP _ | .pFromC _ | .cpex _
  | .abit0 _ | .abit1 _ | .cbit0 _ | .cbit1 _ | .pcIndA | .pcIndC | .pcFromA | .pcFromC | .apcex | .cpcex
  | .hs0 _ | .xm0 | .sb0 | .sr0 | .mp0 | .clrhs | .tstHs0 _ _ | .tstXm0 _ | .tstSb0 _ | .tstSr0 _
  | .tstMp0 _ | .st0 _ | .st1 _ | .tstPNe _ _ | .tstPEq _ _ | .eqA0onA _ | .eqA0onF _ _ | .eqB0onA _
  | .eqB0onF _ _ | .eqC0onA _ | .eqC0onF _ _ | .eqD0onA _ | .eqD0onF _ _ | .neA0onA _ | .neA0onF _ _
  | .neB0onA _ | .neB0onF _ _ | .neC0onA _ | .neC0onF _ _ | .neD0onA _ | .neD0onF _ _ | .gtABonA _
  | .gtABonF _ _ | .gtBConA _ | .gtBConF _ _ | .gtCAonA _ | .gtCAonF _ _ | .gtDConA _ | .gtDConF _ _
  | .ltABonA _ | .ltABonF _ _ | .ltBConA _ | .ltBConF _ _ | .ltCAonA _ | .ltCAonF _ _ | .ltDConA _
  | .ltDConF _ _ | .geABonA _ | .geABonF _ _ | .geBConA _ | .geBConF _ _ | .geCAonA _ | .geCAonF _ _
  | .geDConA _ | .geDConF _ _ | .leABonA _ | .leABonF _ _ | .leBConA _ | .leBConF _ _ | .leCAonA _
  | .leCAonF _ _ | .leDConA _ | .leDConF _ _ | .golong _ | .govlng _ | .gosubl _ | .gosbvl _ | .goyes _
  | .rtnyes => []
  | .cAddP1 => ["C=C+P+1"]
  | .tstAbit0 _ _ => ["?ABIT#1"]
  | .tstAbit1 _ _ => ["?ABIT#0"]
  | .tstCbit0 _ _ => ["?CBIT#1"]
  | .tstCbit1 _ _ => ["?CBIT#0"]
  | .tstSt0 _ _ => ["?ST#1"]
  | .tstSt1 _ _ => ["?ST#0"]
  | .eqABonA _ | .eqABonF _ _ => ["?B=A"]
  | .eqBConA _ | .eqBConF _ _ => ["?C=B"]
  | .eqAConA _ | .eqAConF _ _ => ["?C=A"]
  | .eqCDonA _ | .eqCDonF _ _ => ["?D=C"]
  | .neABonA _ | .neABonF _ _ => ["?B#A"]
  | .neBConA _ | .neBConF _ _ => ["?C#B"]
  | .neAConA _ | .neAConF _ _ => ["?C#A"]
  | .neCDonA _ | .neCDonF _ _ => ["?D#C"]

/-- The relative operand of `w` bits that reaches a target from a base: `(target - base) mod 2^w`, rejected where the target is
out of range (30_encoding.md R110, R111). -/
def relOperand (w : Nat) (base target : Addr) : Option (BitVec w) :=
  if relTarget base ((target - base).setWidth w) = target then some ((target - base).setWidth w) else none

/-- The offset of a conditional jump or a `GOYES`, which must not be 00: it would assemble a return (30_encoding.md R110). -/
def condOperand (base target : Addr) : Option (BitVec 8) :=
  match relOperand 8 base target with
  | some off => if off = 0#8 then none else some off
  | none => none

/-- `GOTO label` at `pc`. -/
def assembleGoto (pc target : Addr) : Option Instr := (relOperand 12 (addrPlus pc 1) target).map .goto
/-- `GOLONG label` at `pc`. -/
def assembleGolong (pc target : Addr) : Option Instr := (relOperand 16 (addrPlus pc 2) target).map .golong
/-- `GOSUB label` at `pc`. -/
def assembleGosub (pc target : Addr) : Option Instr := (relOperand 12 (addrPlus pc 4) target).map .gosub
/-- `GOSUBL label` at `pc`. -/
def assembleGosubl (pc target : Addr) : Option Instr := (relOperand 16 (addrPlus pc 6) target).map .gosubl
/-- `GOC label` at `pc`. -/
def assembleGoc (pc target : Addr) : Option Instr := (condOperand (addrPlus pc 1) target).map .goc
/-- `GONC label` at `pc`. -/
def assembleGonc (pc target : Addr) : Option Instr := (condOperand (addrPlus pc 1) target).map .gonc
/-- `GOYES label` after a test at `pc` whose suffix begins at nibble `q` (3 or 5). -/
def assembleGoyes (q : Nat) (pc target : Addr) : Option Suffix := (condOperand (addrPlus pc q) target).map .goyes

end Sys2Proof.Machine
end

