-- ==== Sys2Proof/Machine/Timing.lean ====
section
/-!
DEFINITION. The cycle counts of the source's tables (70_reset_and_hazards.md R310, R311), as information only: no step depends on
them and State holds no clock (D34). `none` is the source's "?".
-/

namespace Sys2Proof.Machine

/-- The cycles of a register test: 13 + d where the test is true, 6 + d where it is false, `d` being the number of nibbles of the
field for the present value of P (42_tests_registers.md R172, 70_reset_and_hazards.md R311). -/
def fieldTestCycles (c : Cmp) (x : WReg) (z : TestArg) (f : Field) (s : State) : Nat :=
  (if cmpHolds c (fieldValue s f x) (argValue s f z) then 13 else 6) + fieldDigits s.p f

/-- The cycles an instruction takes in the state before it (70_reset_and_hazards.md R310). The suffix rows count nothing of their own:
they are "included in the test they follow" (log entry 27). -/
def cycles (i : Instr) (s : State) : Option Nat :=
  match i with
  | .rtnsxm | .rtn | .rtnsc | .rtncc | .rti => some 9
  | .clrst | .cFromSt | .stFromC | .cstex | .cFromP _ | .pFromC _ | .cpex _ => some 6
  | .pInc | .pDec | .hs0 _ | .xm0 | .sb0 | .sr0 | .mp0 | .clrhs => some 3
  | .pSet _ => some 2
  | .goc _ | .rtnc => some (if s.carry then 10 else 3)
  | .gonc _ | .rtnnc => some (if s.carry then 3 else 10)
  | .goto _ => some 11
  | .gosub _ => some 12
  | .cAddP1 => some 8
  | .abit0 _ | .abit1 _ | .tstAbit0 _ _ | .tstAbit1 _ _ | .cbit0 _ | .cbit1 _ | .tstCbit0 _ _
  | .tstCbit1 _ _ | .pcIndC | .pcFromA | .pcFromC | .apcex | .cpcex => none
  | .pcIndA => some 23
  | .tstHs0 n _ => some (if maskIsClear s.hst n then 13 else 6)
  | .tstXm0 _ => some (if maskIsClear s.hst xmMask then 13 else 6)
  | .tstSb0 _ => some (if maskIsClear s.hst sbMask then 13 else 6)
  | .tstSr0 _ => some (if maskIsClear s.hst srMask then 13 else 6)
  | .tstMp0 _ => some (if maskIsClear s.hst mpMask then 13 else 6)
  | .st0 _ | .st1 _ => some 4
  | .tstSt0 n _ => some (if !bitIsSet s.st n then 14 else 7)
  | .tstSt1 n _ => some (if bitIsSet s.st n then 14 else 7)
  | .tstPNe n _ => some (if decide (s.p ≠ n) then 13 else 6)
  | .tstPEq n _ => some (if decide (s.p = n) then 13 else 6)
  | .eqABonA _ => some (fieldTestCycles .eq .A (.reg .B) .a s)
  | .eqABonF f _ => some (fieldTestCycles .eq .A (.reg .B) f s)
  | .eqBConA _ => some (fieldTestCycles .eq .B (.reg .C) .a s)
  | .eqBConF f _ => some (fieldTestCycles .eq .B (.reg .C) f s)
  | .eqAConA _ => some (fieldTestCycles .eq .A (.reg .C) .a s)
  | .eqAConF f _ => some (fieldTestCycles .eq .A (.reg .C) f s)
  | .eqCDonA _ => some (fieldTestCycles .eq .C (.reg .D) .a s)
  | .eqCDonF f _ => some (fieldTestCycles .eq .C (.reg .D) f s)
  | .neABonA _ => some (fieldTestCycles .ne .A (.reg .B) .a s)
  | .neABonF f _ => some (fieldTestCycles .ne .A (.reg .B) f s)
  | .neBConA _ => some (fieldTestCycles .ne .B (.reg .C) .a s)
  | .neBConF f _ => some (fieldTestCycles .ne .B (.reg .C) f s)
  | .neAConA _ => some (fieldTestCycles .ne .A (.reg .C) .a s)
  | .neAConF f _ => some (fieldTestCycles .ne .A (.reg .C) f s)
  | .neCDonA _ => some (fieldTestCycles .ne .C (.reg .D) .a s)
  | .neCDonF f _ => some (fieldTestCycles .ne .C (.reg .D) f s)
  | .eqA0onA _ => some (fieldTestCycles .eq .A .zero .a s)
  | .eqA0onF f _ => some (fieldTestCycles .eq .A .zero f s)
  | .eqB0onA _ => some (fieldTestCycles .eq .B .zero .a s)
  | .eqB0onF f _ => some (fieldTestCycles .eq .B .zero f s)
  | .eqC0onA _ => some (fieldTestCycles .eq .C .zero .a s)
  | .eqC0onF f _ => some (fieldTestCycles .eq .C .zero f s)
  | .eqD0onA _ => some (fieldTestCycles .eq .D .zero .a s)
  | .eqD0onF f _ => some (fieldTestCycles .eq .D .zero f s)
  | .neA0onA _ => some (fieldTestCycles .ne .A .zero .a s)
  | .neA0onF f _ => some (fieldTestCycles .ne .A .zero f s)
  | .neB0onA _ => some (fieldTestCycles .ne .B .zero .a s)
  | .neB0onF f _ => some (fieldTestCycles .ne .B .zero f s)
  | .neC0onA _ => some (fieldTestCycles .ne .C .zero .a s)
  | .neC0onF f _ => some (fieldTestCycles .ne .C .zero f s)
  | .neD0onA _ => some (fieldTestCycles .ne .D .zero .a s)
  | .neD0onF f _ => some (fieldTestCycles .ne .D .zero f s)
  | .gtABonA _ => some (fieldTestCycles .gt .A (.reg .B) .a s)
  | .gtABonF f _ => some (fieldTestCycles .gt .A (.reg .B) f s)
  | .gtBConA _ => some (fieldTestCycles .gt .B (.reg .C) .a s)
  | .gtBConF f _ => some (fieldTestCycles .gt .B (.reg .C) f s)
  | .gtCAonA _ => some (fieldTestCycles .gt .C (.reg .A) .a s)
  | .gtCAonF f _ => some (fieldTestCycles .gt .C (.reg .A) f s)
  | .gtDConA _ => some (fieldTestCycles .gt .D (.reg .C) .a s)
  | .gtDConF f _ => some (fieldTestCycles .gt .D (.reg .C) f s)
  | .ltABonA _ => some (fieldTestCycles .lt .A (.reg .B) .a s)
  | .ltABonF f _ => some (fieldTestCycles .lt .A (.reg .B) f s)
  | .ltBConA _ => some (fieldTestCycles .lt .B (.reg .C) .a s)
  | .ltBConF f _ => some (fieldTestCycles .lt .B (.reg .C) f s)
  | .ltCAonA _ => some (fieldTestCycles .lt .C (.reg .A) .a s)
  | .ltCAonF f _ => some (fieldTestCycles .lt .C (.reg .A) f s)
  | .ltDConA _ => some (fieldTestCycles .lt .D (.reg .C) .a s)
  | .ltDConF f _ => some (fieldTestCycles .lt .D (.reg .C) f s)
  | .geABonA _ => some (fieldTestCycles .ge .A (.reg .B) .a s)
  | .geABonF f _ => some (fieldTestCycles .ge .A (.reg .B) f s)
  | .geBConA _ => some (fieldTestCycles .ge .B (.reg .C) .a s)
  | .geBConF f _ => some (fieldTestCycles .ge .B (.reg .C) f s)
  | .geCAonA _ => some (fieldTestCycles .ge .C (.reg .A) .a s)
  | .geCAonF f _ => some (fieldTestCycles .ge .C (.reg .A) f s)
  | .geDConA _ => some (fieldTestCycles .ge .D (.reg .C) .a s)
  | .geDConF f _ => some (fieldTestCycles .ge .D (.reg .C) f s)
  | .leABonA _ => some (fieldTestCycles .le .A (.reg .B) .a s)
  | .leABonF f _ => some (fieldTestCycles .le .A (.reg .B) f s)
  | .leBConA _ => some (fieldTestCycles .le .B (.reg .C) .a s)
  | .leBConF f _ => some (fieldTestCycles .le .B (.reg .C) f s)
  | .leCAonA _ => some (fieldTestCycles .le .C (.reg .A) .a s)
  | .leCAonF f _ => some (fieldTestCycles .le .C (.reg .A) f s)
  | .leDConA _ => some (fieldTestCycles .le .D (.reg .C) .a s)
  | .leDConF f _ => some (fieldTestCycles .le .D (.reg .C) f s)
  | .golong _ | .govlng _ => some 14
  | .gosubl _ | .gosbvl _ => some 15
  | .goyes _ | .rtnyes => some 0

end Sys2Proof.Machine
end

