-- ==== Sys2Proof/Safety.lean ====
section
/-!
DEFINITION. Runs and what counts as a safe one. A run ends at an address of EXIT, at a refusal, or when its budget of steps
is used up (70_reset_and_hazards.md R312); none of these is an event of the hardware. And the state invariant.
-/

namespace Sys2Proof.Machine

/-- How a run ended (70_reset_and_hazards.md R312). -/
inductive RunEnd where
  /-- The PC reached an address of EXIT. -/
  | exit (s : State)
  /-- The budget of steps was used up. -/
  | budget (s : State)
  /-- A step was refused. -/
  | refused (r : Refusal)
  /-- A step faulted; no step of this machine does (60_exceptions.md R280). -/
  | fault (r : Fault)
  deriving DecidableEq, Repr

/-- Whether the PC is in EXIT, and so the run at its end (70_reset_and_hazards.md R312 (a)). -/
def atExit (exits : List Addr) (s : State) : Bool := decide (s.pc ∈ exits)

/-- Runs the machine for at most `budget` steps, ending where the PC is in EXIT (00_scope.md R5, 70_reset_and_hazards.md R312).
DESIGN CHOICE (log entry 26): the spec does not order the end of a run and what happens at a boundary (60_exceptions.md R285). Here
the PC is looked at twice: where the instruction before has left it, before the boundary, so that no event is taken once EXIT
is reached; and where the boundary leaves it, before the next instruction, so that an interrupt entry ends a run whose
EXIT holds 0000Fh. With the budget used up the coming boundary is not passed. -/
def runUntil (exits : List Addr) : Nat → State → RunEnd
  | 0, s => if atExit exits s then .exit s else .budget s
  | k + 1, s =>
    if atExit exits s then .exit s
    else if atExit exits (atBoundary s) then .exit (atBoundary s)
    else
      match step s with
      | .next t => runUntil exits k t
      | .refused r => .refused r
      | .fault r => .fault r

/-- A step that goes on: neither refused nor faulted. -/
def stepGoesOn (s : State) : Bool :=
  match step s with
  | .next _ => true
  | .refused _ => false
  | .fault _ => false

/-- Every one of the next `k` steps goes on: the run meets no unlisted encoding, no instruction above the machine's level and no
unreadable nibble. -/
def safeFor : Nat → State → Bool
  | 0, _ => true
  | k + 1, s =>
    match step s with
    | .next t => safeFor k t
    | .refused _ => false
    | .fault _ => false

/-- The invariant of the machine's state: its memory is in canonical form. -/
def State.Inv (s : State) : Bool := Memory.wf s.mem

end Sys2Proof.Machine
end

