-- ==== Sys2Proof/Certificates/Slice0/Obligations.lean ====
section
/-!
DEFINITION. The statements for the provers. The vocabulary below restates the spec's notation (00_scope.md R9, R10; 10_state.md R23) in
plain arithmetic, so that a statement does not speak in the model's own operations.
-/

namespace Sys2Proof.Claims

open Sys2Proof.Machine

/-- `X{hi:lo} = (X div 16^lo) mod 16^(hi-lo+1)` (00_scope.md R9). -/
def slice (x : Reg64) (hi lo : Nat) : Nat := x.toNat / 16 ^ lo % 16 ^ (hi - lo + 1)

/-- The highest nibble of a field (10_state.md R23). -/
def hi (p : Nibble) : Field → Nat
  | .p | .wp => p.toNat
  | .xs | .x => 2
  | .s | .w => 15
  | .m => 14
  | .b => 1
  | .a => 4

/-- The lowest nibble of a field (10_state.md R23). -/
def lo (p : Nibble) : Field → Nat
  | .p => p.toNat
  | .xs => 2
  | .s => 15
  | .m => 3
  | .wp | .x | .b | .w | .a => 0

/-- `X{f}` for the present value of P (10_state.md R23). -/
def fieldOf (p : Nibble) (f : Field) (x : Reg64) : Nat := slice x (hi p f) (lo p f)

/-- `sext_w(v)` (00_scope.md R9). -/
def sext (w v : Nat) : Int := if v < 2 ^ (w - 1) then (v : Int) else (v : Int) - 2 ^ w

/-- `(pc + k + r) mod 2^20` (20_memory.md R66). -/
def target (pc : Addr) (k : Nat) (r : Int) : Addr := BitVec.ofInt 20 ((pc.toNat : Int) + k + r)

/-- The address `k` nibbles after `pc`; with `k` the instruction's length, `next` (00_scope.md R10). -/
def after (pc : Addr) (k : Nat) : Addr := BitVec.ofNat 20 (pc.toNat + k)

/-- The stack after a `pop()` (10_state.md R35). -/
def popped (k : RStk) : RStk := ⟨k.l1, k.l2, k.l3, k.l4, k.l5, k.l6, k.l7, 0#20⟩

/-- The stack after a `push(v)` (10_state.md R35). -/
def pushed (v : Addr) (k : RStk) : RStk := ⟨v, k.l0, k.l1, k.l2, k.l3, k.l4, k.l5, k.l6⟩

/-- The levels of the stack, RSTK[0] first (10_state.md R34). -/
def levels (k : RStk) : List Addr := [k.l0, k.l1, k.l2, k.l3, k.l4, k.l5, k.l6, k.l7]

/-- `s` after a return that is taken: nothing but PC and RSTK changes (41_subroutines.md R162). -/
def returned (s : State) : State := { s with pc := s.rstk.l0, rstk := popped s.rstk }

/-- `s` after a test whose suffix stands at nibble `q`, in full: nothing but CARRY, PC and (for RTNYES taken) RSTK changes
(42_tests_registers.md R170). -/
def afterTest (s : State) (q : Nat) (cond : Bool) (y : Suffix) : State :=
  if cond then
    match y with
    | .goyes off => { s with carry := true, pc := target s.pc q (sext 8 off.toNat) }
    | .rtnyes => { s with carry := true, pc := s.rstk.l0, rstk := popped s.rstk }
  else { s with carry := false, pc := after s.pc (q + 2) }

/-- The instruction is a test of `rel` between two registers on a field: `onF` on a named field, `onA` on field A
(42_tests_registers.md R170 to R172). The state after it is given in full. -/
def comparesFields (onF : Field → Suffix → Instr) (onA : Suffix → Instr) (rel : Nat → Nat → Bool) (x z : State → Reg64) :
    Prop :=
  (∀ f y s, exec (onF f y) s = .next (afterTest s 3 (rel (fieldOf s.p f (x s)) (fieldOf s.p f (z s))) y)) ∧
  (∀ y s, exec (onA y) s = .next (afterTest s 3 (rel (slice (x s) 4 0) (slice (z s) 4 0)) y))

/-- The constant 0, as the second operand of a test against zero. -/
def zeroReg (_ : State) : Reg64 := 0

/-- The instruction has exactly this encoding, on machines of either HS_MASK_GENERAL. -/
def encodedAs (i : Instr) (ns : List Nibble) : Prop :=
  encode i = ns ∧ i.length = ns.length ∧ ∀ hs rest, decode hs (ns ++ rest) = .ok i

/-- The instruction is level 0 and takes a fixed number of cycles. -/
def levelZeroTaking (i : Instr) (k : Nat) : Prop := i.level = 0 ∧ ∀ s, cycles i s = some k

/-- The instruction of `k` nibbles clears the HST bits that `sel` selects and changes nothing else but PC. -/
def clearsHstBits (i : Instr) (k : Nat) (sel : Nat → Bool) : Prop :=
  ∀ s, ∃ h : Nibble, exec i s = .next { s with hst := h, pc := after s.pc k } ∧
    ∀ j < 4, h.getLsbD j = (s.hst.getLsbD j && !sel j)

/-- Whether every HST bit that the mask selects is 0. -/
def allClear (hst n : Nibble) : Bool := decide (∀ j : Fin 4, n.getLsbD j = true → hst.getLsbD j = false)

/-- The five nibbles at an address, or what is missing of them: nibble `i` at `(ea + i) mod 2^20`. -/
def nibbleAt (s : State) (ea i : Nat) : Option Nibble := Memory.read s.mem (BitVec.ofNat 20 (ea + i))

/-- The jump through memory from the address `ea`, on a machine of level `need` or higher (40_jumps.md R136): five readable nibbles
give the target, the first unreadable one is refused. -/
def jumpsThrough (i : Instr) (need : Nat) (ea : State → Nat) : Prop :=
  ∀ s, need ≤ s.cfg.version.level →
    (∀ n0 n1 n2 n3 n4 : Nibble, nibbleAt s (ea s) 0 = some n0 → nibbleAt s (ea s) 1 = some n1 →
      nibbleAt s (ea s) 2 = some n2 → nibbleAt s (ea s) 3 = some n3 → nibbleAt s (ea s) 4 = some n4 →
      exec i s = .next { s with
        pc := BitVec.ofNat 20 (n0.toNat + 16 * n1.toNat + 256 * n2.toNat + 4096 * n3.toNat + 65536 * n4.toNat) }) ∧
    (∀ k < 5, (∀ j < k, (nibbleAt s (ea s) j).isSome = true) → nibbleAt s (ea s) k = none →
      exec i s = .refused (.unreadable (BitVec.ofNat 20 (ea s + k))))

/-- The exchange of PC with field A of a register: `get` reads the register, `put` writes it (40_jumps.md R140, R141). -/
def exchangesPc (i : Instr) (get : State → Reg64) (put : State → Reg64 → State) : Prop :=
  ∀ s, 2 ≤ s.cfg.version.level → ∃ v : Reg64,
    exec i s = .next { put s v with pc := BitVec.ofNat 20 (slice (get s) 4 0) } ∧
    slice v 4 0 = (s.pc.toNat + 4) % 2 ^ 20 ∧ slice v 15 5 = slice (get s) 15 5

/-- The level-2 instruction writes `b` to bit `n` of a register and changes nothing else but PC (45_bits.md R240). -/
def writesRegBit (mk : Nibble → Instr) (b : Bool) (get : State → Reg64) (put : State → Reg64 → State) : Prop :=
  ∀ n s, 2 ≤ s.cfg.version.level → ∃ v : Reg64,
    exec (mk n) s = .next { put s v with pc := after s.pc 5 } ∧
    ∀ j < 64, v.getLsbD j = if j = n.toNat then b else (get s).getLsbD j

/-- The level-2 test that bit `n` of a register is `b` (43_tests_p_st_hst_bits.md R224). -/
def testsRegBit (mk : Nibble → Suffix → Instr) (b : Bool) (get : State → Reg64) : Prop :=
  ∀ n y s, 2 ≤ s.cfg.version.level →
    exec (mk n y) s = .next (afterTest s 5 (decide ((get s).toNat / 2 ^ n.toNat % 2 = b.toNat)) y)

/-- The addresses a relative operand of `w` bits reaches: `(pc + k + r) mod 2^20` for -2^(w-1) <= r <= 2^(w-1) - 1, less `r` = 0
where the offset 00 would assemble a return (30_encoding.md R110, R111). -/
def inReach (w k : Nat) (zeroAllowed : Bool) (pc dest : Addr) : Prop :=
  ∃ r : Int, -2 ^ (w - 1) ≤ r ∧ r ≤ 2 ^ (w - 1) - 1 ∧ (zeroAllowed = true ∨ r ≠ 0) ∧ dest = target pc k r

/-- The assembler gives exactly the offset that leads from `pc` to the label, and rejects exactly the labels out of reach
(30_encoding.md R110, R111). -/
def assembles {w : Nat} {α : Type} (asm : Addr → Addr → Option α) (mk : BitVec w → α) (k : Nat) (zeroAllowed : Bool) : Prop :=
  ∀ pc dest,
    (∀ off, asm pc dest = some (mk off) ↔ target pc k (sext w off.toNat) = dest ∧ (zeroAllowed = true ∨ off ≠ 0)) ∧
    (asm pc dest = none ↔ ¬ inReach w k zeroAllowed pc dest)

/-- The masks that the source lists for `82n` (30_encoding.md R100). -/
def listedClear (n : Nibble) : Prop := n = 1#4 ∨ n = 2#4 ∨ n = 4#4 ∨ n = 8#4 ∨ n = 15#4

/-- The masks that the source lists for `83nyy` (30_encoding.md R100). -/
def listedTest (n : Nibble) : Prop := n = 1#4 ∨ n = 2#4 ∨ n = 4#4 ∨ n = 8#4

/-- Whether the parameter HS_MASK_GENERAL admits the instruction on this machine (30_encoding.md R100). -/
def maskAdmitted (s : State) : Instr → Prop
  | .hs0 n => s.cfg.hsMaskGeneral = true ∨ listedClear n
  | .tstHs0 n _ => s.cfg.hsMaskGeneral = true ∨ listedTest n
  | _ => True

/-- Whether the five nibbles that a jump through memory reads are readable (20_memory.md R67). -/
def dataReadable (s : State) : Instr → Prop
  | .pcIndA => ∀ j < 5, (nibbleAt s (slice s.a 4 0) j).isSome = true
  | .pcIndC => ∀ j < 5, (nibbleAt s (slice s.c 4 0) j).isSome = true
  | _ => True

/-- What a test costs when true and when false, for the value `p` of P; `none` for what is no test or costs "?"
(70_reset_and_hazards.md R310). -/
def testCost (p : Nibble) : Instr → Option (Nat × Nat)
  | .rtnsxm | .rtn | .rtnsc | .rtncc | .clrst | .cFromSt | .stFromC | .cstex | .pInc | .pDec | .rti
  | .pSet _ | .goc _ | .rtnc | .gonc _ | .rtnnc | .goto _ | .gosub _ | .cAddP1 | .cFromP _ | .pFromC _
  | .cpex _ | .abit0 _ | .abit1 _ | .tstAbit0 _ _ | .tstAbit1 _ _ | .cbit0 _ | .cbit1 _ | .tstCbit0 _ _
  | .tstCbit1 _ _ | .pcIndA | .pcIndC | .pcFromA | .pcFromC | .apcex | .cpcex | .hs0 _ | .xm0 | .sb0 | .sr0
  | .mp0 | .clrhs | .st0 _ | .st1 _ | .golong _ | .govlng _ | .gosubl _ | .gosbvl _ | .goyes _ | .rtnyes => none
  | .tstHs0 _ _ | .tstXm0 _ | .tstSb0 _ | .tstSr0 _ | .tstMp0 _ | .tstPNe _ _ | .tstPEq _ _ => some (13, 6)
  | .tstSt0 _ _ | .tstSt1 _ _ => some (14, 7)
  | .eqABonA _ | .eqBConA _ | .eqAConA _ | .eqCDonA _ | .neABonA _ | .neBConA _ | .neAConA _ | .neCDonA _
  | .eqA0onA _ | .eqB0onA _ | .eqC0onA _ | .eqD0onA _ | .neA0onA _ | .neB0onA _ | .neC0onA _ | .neD0onA _
  | .gtABonA _ | .gtBConA _ | .gtCAonA _ | .gtDConA _ | .ltABonA _ | .ltBConA _ | .ltCAonA _ | .ltDConA _
  | .geABonA _ | .geBConA _ | .geCAonA _ | .geDConA _ | .leABonA _ | .leBConA _ | .leCAonA _ | .leDConA _ => some (13 + (hi p .a - lo p .a + 1), 6 + (hi p .a - lo p .a + 1))
  | .eqABonF f _ | .eqBConF f _ | .eqAConF f _ | .eqCDonF f _ | .neABonF f _ | .neBConF f _ | .neAConF f _
  | .neCDonF f _ | .eqA0onF f _ | .eqB0onF f _ | .eqC0onF f _ | .eqD0onF f _ | .neA0onF f _ | .neB0onF f _
  | .neC0onF f _ | .neD0onF f _ | .gtABonF f _ | .gtBConF f _ | .gtCAonF f _ | .gtDConF f _ | .ltABonF f _
  | .ltBConF f _ | .ltCAonF f _ | .ltDConF f _ | .geABonF f _ | .geBConF f _ | .geCAonF f _ | .geDConF f _
  | .leABonF f _ | .leBConF f _ | .leCAonF f _ | .leDConF f _ => some (13 + (hi p f - lo p f + 1), 6 + (hi p f - lo p f + 1))

/-- The suffix of a test; `none` for what is no test (42_tests_registers.md R170). -/
def testSuffix : Instr → Option Suffix
  | .rtnsxm | .rtn | .rtnsc | .rtncc | .clrst | .cFromSt | .stFromC | .cstex | .pInc | .pDec | .rti
  | .pSet _ | .goc _ | .rtnc | .gonc _ | .rtnnc | .goto _ | .gosub _ | .cAddP1 | .cFromP _ | .pFromC _
  | .cpex _ | .abit0 _ | .abit1 _ | .cbit0 _ | .cbit1 _ | .pcIndA | .pcIndC | .pcFromA | .pcFromC | .apcex
  | .cpcex | .hs0 _ | .xm0 | .sb0 | .sr0 | .mp0 | .clrhs | .st0 _ | .st1 _ | .golong _ | .govlng _
  | .gosubl _ | .gosbvl _ | .goyes _ | .rtnyes => none
  | .tstAbit0 _ y | .tstAbit1 _ y | .tstCbit0 _ y | .tstCbit1 _ y | .tstHs0 _ y | .tstXm0 y | .tstSb0 y
  | .tstSr0 y | .tstMp0 y | .tstSt0 _ y | .tstSt1 _ y | .tstPNe _ y | .tstPEq _ y | .eqABonA y
  | .eqABonF _ y | .eqBConA y | .eqBConF _ y | .eqAConA y | .eqAConF _ y | .eqCDonA y | .eqCDonF _ y
  | .neABonA y | .neABonF _ y | .neBConA y | .neBConF _ y | .neAConA y | .neAConF _ y | .neCDonA y
  | .neCDonF _ y | .eqA0onA y | .eqA0onF _ y | .eqB0onA y | .eqB0onF _ y | .eqC0onA y | .eqC0onF _ y
  | .eqD0onA y | .eqD0onF _ y | .neA0onA y | .neA0onF _ y | .neB0onA y | .neB0onF _ y | .neC0onA y
  | .neC0onF _ y | .neD0onA y | .neD0onF _ y | .gtABonA y | .gtABonF _ y | .gtBConA y | .gtBConF _ y
  | .gtCAonA y | .gtCAonF _ y | .gtDConA y | .gtDConF _ y | .ltABonA y | .ltABonF _ y | .ltBConA y
  | .ltBConF _ y | .ltCAonA y | .ltCAonF _ y | .ltDConA y | .ltDConF _ y | .geABonA y | .geABonF _ y
  | .geBConA y | .geBConF _ y | .geCAonA y | .geCAonF _ y | .geDConA y | .geDConF _ y | .leABonA y
  | .leABonF _ y | .leBConA y | .leBConF _ y | .leCAonA y | .leCAonF _ y | .leDConA y | .leDConF _ y => some y

/-- The test instructions (42_tests_registers.md R170). -/
def isTest (i : Instr) : Bool := (testSuffix i).isSome

/-- The tests whose suffix is RTNYES (41_subroutines.md R161). -/
def isReturningTest (i : Instr) : Bool := decide (testSuffix i = some .rtnyes)


/-- The instructions that write CARRY (10_state.md R29, R44), the suffix rows aside. -/
def writesCarry (i : Instr) : Bool :=
  match i with
  | .pInc | .pDec | .cAddP1 | .rtnsc | .rtncc => true
  | i => isTest i

/-- The instructions that clear bits of HST (10_state.md R30). -/
def clearsHst (i : Instr) : Bool :=
  match i with
  | .hs0 _ | .xm0 | .sb0 | .sr0 | .mp0 | .clrhs => true
  | _ => false

/-- The instructions that write ST (10_state.md R32, R44). -/
def writesSt (i : Instr) : Bool :=
  match i with
  | .st0 _ | .st1 _ | .cstex | .stFromC | .clrst => true
  | _ => false

/-- The instructions that write A (10_state.md R44). -/
def writesA (i : Instr) : Bool :=
  match i with
  | .apcex | .abit0 _ | .abit1 _ => true
  | _ => false

/-- The instructions that write C (10_state.md R44). -/
def writesC (i : Instr) : Bool :=
  match i with
  | .cpcex | .cAddP1 | .cpex _ | .cFromP _ | .cstex | .cFromSt | .cbit0 _ | .cbit1 _ => true
  | _ => false

/-- The instructions that write P (10_state.md R44). -/
def writesP (i : Instr) : Bool :=
  match i with
  | .pSet _ | .pInc | .pDec | .cpex _ | .pFromC _ => true
  | _ => false

/-- The instructions that push or pop RSTK: the calls, the returns, and the tests whose suffix is RTNYES (10_state.md R34, R44). -/
def usesStack (i : Instr) : Bool :=
  match i with
  | .gosub _ | .gosubl _ | .gosbvl _ | .rtn | .rtnsc | .rtncc | .rtnsxm | .rti | .rtnc | .rtnnc | .rtnyes => true
  | i => isReturningTest i

end Sys2Proof.Claims

open Sys2Proof Sys2Proof.Machine Sys2Proof.Claims

/-- Decoding the encoding of any well-formed instruction gives it back, whatever follows it. For every well-formed instruction i (every operand at every value its encoding admits) and every nibbles after it, decode of encode i followed by them is i. Rests on the nibble order and the encodings that the spec takes by decision (log entries 12, 14, 15). -/
def Obligations.DecodeOfEncodeGivesTheInstruction : Prop :=
  ∀ (i : Instr) (rest : List Nibble), i.wf = true → decode true (encode i ++ rest) = .ok i

/-- What the decoder answers is well-formed, fits in the nibbles, and encodes to exactly the nibbles it was read from. For either HS_MASK_GENERAL and every nibble string: if decode answers i, then i is well-formed (so it is never a SUFFIX row), its length is at most that of the string, and encode i is the first i.length nibbles of the string. No bit of an encoding is dropped and no two encodings decode to one instruction. That the named HST rows win over the general ones is the model's choice (log entry 9), and that no SUFFIX row is decoded is log entry 8; nibble order, field codes and the thirteen unprinted encodings are the spec's decisions (log entries 12, 14, 15). -/
def Obligations.DecodedInstructionIsTheOneEncoded : Prop :=
  ∀ (hs : Bool) (ns : List Nibble) (i : Instr), decode hs ns = .ok i →
    i.wf = true ∧ i.length ≤ ns.length ∧ encode i = ns.take i.length

/-- Exactly the encodings outside the opcode tables are unlisted, and the decoder names the nibbles it read. First nibble: unlisted exactly for 1, 3 and A to F. After 0: exactly for 4 to 7 and E. After 80: exactly for 0 to 7, A, B and E. After 808: exactly for 0 to 3, D and F. After 81: exactly for every pair but B2, B3, B6, B7. Each time the nibbles read so far are named, whatever follows. The set is the spec's inference from its opcode map, and that they are refused is its decision D17 (log entry 35). -/
def Obligations.UnlistedEncodingsAreRefusedByTheDecoder : Prop :=
  ∀ (hs : Bool) (n m : Nibble) (r : List Nibble),
    (decode hs (n :: r) = .unlisted [n] ↔ n = 1#4 ∨ n = 3#4 ∨ 10 ≤ n.toNat) ∧
    (decode hs (0#4 :: n :: r) = .unlisted [0#4, n] ↔ (4 ≤ n.toNat ∧ n.toNat ≤ 7) ∨ n = 14#4) ∧
    (decode hs (8#4 :: 0#4 :: n :: r) = .unlisted [8#4, 0#4, n] ↔ n.toNat ≤ 7 ∨ n = 10#4 ∨ n = 11#4 ∨ n = 14#4) ∧
    (decode hs (8#4 :: 0#4 :: 8#4 :: n :: r) = .unlisted [8#4, 0#4, 8#4, n] ↔ n.toNat ≤ 3 ∨ n = 13#4 ∨ n = 15#4) ∧
    (decode hs (8#4 :: 1#4 :: n :: m :: r) = .unlisted [8#4, 1#4, n, m] ↔
      ¬ (n = 11#4 ∧ (m = 2#4 ∨ m = 3#4 ∨ m = 6#4 ∨ m = 7#4)))

/-- With HS_MASK_GENERAL false the decoder refuses every mask of 82n and 83nyy that the source does not list, and only those. With the parameter false, 82n is unlisted exactly when n is not 1, 2, 4, 8, F, and 83n exactly when n is not 1, 2, 4, 8; every other string decodes as it does with the parameter true. The parameter and its mask reading are the spec's decisions D10 and D11; that it is read in the decoder, which calls the encoding unlisted, is the model's choice (DESIGN CHOICE, log entry 20). -/
def Obligations.StrictMachineAdmitsOnlyTheListedMasks : Prop :=
  ∀ (n : Nibble) (ns r : List Nibble),
    (decode false (8#4 :: 2#4 :: n :: r) = .unlisted [8#4, 2#4, n] ↔ ¬ listedClear n) ∧
    (decode false (8#4 :: 3#4 :: n :: r) = .unlisted [8#4, 3#4, n] ↔ ¬ listedTest n) ∧
    ((∀ m q, ns = 8#4 :: 2#4 :: m :: q → listedClear m) → (∀ m q, ns = 8#4 :: 3#4 :: m :: q → listedTest m) →
      decode false ns = decode true ns)

/-- Worked encodings of the spec decode to the instructions it names. The nibble strings of the spec's worked encodings (GOTO, GONC, GOSUB, GOLONG, GOVLNG, tests with GOYES and RTNYES, P=, CPEX) decode as the spec says, and so does 808B760 (?CBIT=1 7), which is no worked encoding: it rests on the spec's table of the thirteen unprinted encodings, decision D12, from general knowledge (log entry 15). Nibble order and field codes are decisions too (log entries 12, 14). -/
def Obligations.WordsOfTheSpecDecodeAsItSays : Prop :=
  decode true [6#4, 15#4, 0#4, 0#4] = .ok (.goto 0x00F#12) ∧
  decode true [5#4, 13#4, 15#4] = .ok (.gonc 0xFD#8) ∧
  decode true [7#4, 13#4, 0#4, 0#4] = .ok (.gosub 0x00D#12) ∧
  decode true [8#4, 12#4, 14#4, 15#4, 0#4, 15#4] = .ok (.golong 0xF0FE#16) ∧
  decode true [8#4, 13#4, 5#4, 4#4, 3#4, 2#4, 1#4] = .ok (.govlng 0x12345#20) ∧
  decode true [8#4, 10#4, 2#4, 4#4, 0#4] = .ok (.eqAConA (.goyes 0x04#8)) ∧
  decode true [8#4, 10#4, 2#4, 0#4, 0#4] = .ok (.eqAConA .rtnyes) ∧
  decode true [9#4, 1#4, 13#4, 0#4, 1#4] = .ok (.neB0onF .wp (.goyes 0x10#8)) ∧
  decode true [9#4, 13#4, 15#4, 14#4, 15#4] = .ok (.leDConF .m (.goyes 0xFE#8)) ∧
  decode true [2#4, 5#4] = .ok (.pSet 5#4) ∧
  decode true [8#4, 0#4, 15#4, 2#4] = .ok (.cpex 2#4) ∧
  decode true [8#4, 0#4, 8#4, 11#4, 7#4, 6#4, 0#4] = .ok (.tstCbit1 7#4 (.goyes 0x06#8))

/-- The table word of a well-formed instruction, nibble i at bits 4i+3..4i, decodes to it. For every well-formed i and every nbits of at least 4 bits a nibble, decodeTableWord of the number whose nibbles are encode i is i. The bit numbering of the word is the model's choice (log entry 7). -/
def Obligations.TableWordOfAnInstructionDecodesToIt : Prop :=
  ∀ (i : Instr) (nbits : Nat), i.wf = true → 4 * i.length ≤ nbits →
    decodeTableWord nbits (leValue (encode i)) = some i

/-- A step is the meaning of the instruction decoded at the PC, after the boundary before it. When the nibbles at the PC after the boundary decode to a well-formed instruction i, step is exec of i at the state after the boundary, and nothing else is added; with no environment event that state is s itself. That the boundary stands at the start of the step and that its events are a list in the state are the model's choices (log entries 32 and 4). -/
def Obligations.StepRunsTheDecodedInstruction : Prop :=
  ∀ (s : State) (i : Instr), i.wf = true →
    decode (atBoundary s).cfg.hsMaskGeneral (fetchNibbles (atBoundary s).mem (atBoundary s).pc 7) = .ok i →
    step s = exec i (atBoundary s) ∧ (s.env = [] → step s = exec i s)

/-- An instruction whose word is placed where the next step fetches is the one that step runs. For every state with HS_MASK_GENERAL true, every well-formed i and nbits of at least 4 bits a nibble: after the word of i is placed, step is exec of i at the state after the boundary. Stored, fetched and decoded at any address, across the top of the address space too. The bit numbering of the word, the placing in memory as the load of a program, and the boundary at the start of the step are the model's choices (log entries 7, 5, 32). A machine with HS_MASK_GENERAL false is left to the statements on its decoder and on the step. -/
def Obligations.PlacedInstructionRunsNext : Prop :=
  ∀ (s : State) (i : Instr) (nbits : Nat), i.wf = true → 4 * i.length ≤ nbits → s.cfg.hsMaskGeneral = true →
    step (s.withFetchWord nbits (leValue (encode i))) = exec i (atBoundary (s.withFetchWord nbits (leValue (encode i))))

/-- A step is refused as unreadable only at an address that memory does not list, and always when the PC is such an address. If step answers the refusal unreadable a, then no nibble is readable at a; and if the nibble at the PC after the boundary is not readable, step answers unreadable with that PC. That such a read is refused is the spec's own decision D22 (log entry 5), the order of the refusals is D37 (log entry 25). -/
def Obligations.RefusedReadNamesAnUnreadableNibble : Prop :=
  (∀ (s : State) (a : Addr), step s = .refused (.unreadable a) → Memory.read s.mem a = none) ∧
  (∀ s : State, Memory.read s.mem (atBoundary s).pc = none → step s = .refused (.unreadable (atBoundary s).pc))

/-- An instruction above the machine's level is refused with its level, and what runs is within the level. For every instruction and state: if the level of the instruction is above that of the version, exec answers the refusal aboveLevel with the instruction's level; if exec answers a next state, the level is within the version's. The refusal is the spec's decision D28 (log entry 21). -/
def Obligations.InstructionAboveTheLevelIsRefused : Prop :=
  ∀ (i : Instr) (s : State),
    (s.cfg.version.level < i.level → exec i s = .refused (.aboveLevel i.level)) ∧
    (∀ t, exec i s = .next t → i.level ≤ s.cfg.version.level)

/-- Every instruction of the table completes wherever the machine admits it. For every instruction and state: exec answers a next state exactly when the instruction's level is within the version's, HS_MASK_GENERAL admits its mask (for HS=0 n and ?HS=0 n), and the five nibbles it reads are readable (for PC=(A) and PC=(C)). The three conditions are the spec's decisions D28 (log entry 21), D10 and D11 (log entry 20) and D22 (log entry 5); that the two suffix rows complete as instructions of their own is the model's reading (log entry 8). -/
def Obligations.EveryAdmittedInstructionCompletes : Prop :=
  ∀ (i : Instr) (s : State),
    (∃ t, exec i s = .next t) ↔ i.level ≤ s.cfg.version.level ∧ maskAdmitted s i ∧ dataReadable s i

/-- Every step keeps the canonical form of memory. For every state s with the invariant (addresses strictly rising and below 2^20, every cell one nibble), if step s answers next t then t has the invariant. The canonical form is not the spec's: it is the model's representation of memory as a list of cells (log entries 5 and 6). -/
def Obligations.StepKeepsMemoryCanonical : Prop :=
  ∀ s t : State, s.Inv = true → step s = .next t → t.Inv = true

/-- After reset the PC is 00000h, the memory is in canonical form, and nothing can be fetched before a program is loaded. State.reset has the invariant and PC 00000h (the spec's value, from general knowledge: D21, log entry 2); no nibble is readable before memory is loaded, so the step from reset is refused at 00000h (the memory is MEM's, log entry 5). -/
def Obligations.ResetHasTheInvariantAndTheResetPc : Prop :=
  State.reset.Inv = true ∧ State.reset.pc = 0x00000#20 ∧ step State.reset = .refused (.unreadable 0x00000#20)

/-- No step changes B, D, R0 to R4, D0, D1, IN, OUT, HEXMODE, a byte of memory, or the parameters; one environment event is consumed. For every step that answers a next state: those registers, every nibble that memory reads as, and the parameters are as before, and the environment's list has lost its first event. That the parameters and the environment's list stand in the state, one event to a step, is the model's choice (log entries 3 and 4). -/
def Obligations.StepLeavesUnreachedStateAlone : Prop :=
  ∀ s t : State, step s = .next t →
    t.b = s.b ∧ t.d = s.d ∧ t.r0 = s.r0 ∧ t.r1 = s.r1 ∧ t.r2 = s.r2 ∧ t.r3 = s.r3 ∧ t.r4 = s.r4 ∧ t.d0 = s.d0 ∧ t.d1 = s.d1 ∧
    t.inReg = s.inReg ∧ t.outReg = s.outReg ∧ t.hexMode = s.hexMode ∧ t.mem = s.mem ∧
    (∀ a, Memory.read t.mem a = Memory.read s.mem a) ∧ t.cfg = s.cfg ∧ t.env = s.env.tail

/-- No instruction reads or writes R0 to R4 (nor D0, D1, IN, OUT, HEXMODE). For every instruction and state and any values of those nine registers and the mode bit: exec with these values substituted gives the same outcome as exec without, with the same values substituted in the next state; so no outcome depends on them and each is left as it was. That nothing in scope touches IN, OUT and HEXMODE is the spec's decisions D38 and D18 (log entry 28). -/
def Obligations.ScratchAndInputStateIsNotRead : Prop :=
  ∀ (i : Instr) (s : State) (x0 x1 x2 x3 x4 : Reg64) (e0 e1 : Addr) (vi : BitVec 16) (vo : BitVec 12) (h : Bool),
    exec i { s with r0 := x0, r1 := x1, r2 := x2, r3 := x3, r4 := x4, d0 := e0, d1 := e1, inReg := vi, outReg := vo, hexMode := h } =
      match exec i s with
      | .next t => .next { t with r0 := x0, r1 := x1, r2 := x2, r3 := x3, r4 := x4, d0 := e0, d1 := e1, inReg := vi, outReg := vo, hexMode := h }
      | .fault r => .fault r
      | .refused r => .refused r

/-- Only the tests, P=P+1, P=P-1, C+P+1, RTNSC and RTNCC change CARRY, and after a test CARRY tells whether it took its suffix. For every instruction that is none of these, if exec answers a next state its CARRY is as before; and a test that leaves CARRY 0 has moved to the nibble after it and left RSTK alone, one that leaves CARRY 1 has jumped by its GOYES (base the address of the suffix, the spec's decision D5, log entry 13) or popped the PC for its RTNYES, and a test changes nothing else. -/
def Obligations.CarryIsWrittenOnlyByItsWriters : Prop :=
  ∀ (i : Instr) (s t : State), exec i s = .next t →
    (writesCarry i = false → t.carry = s.carry) ∧
    (isTest i = true → t.carry = false → t.pc = after s.pc i.length ∧ t.rstk = s.rstk) ∧
    (∀ off, testSuffix i = some (.goyes off) → t.carry = true →
      t.pc = target s.pc (i.length - 2) (sext 8 off.toNat) ∧ t.rstk = s.rstk) ∧
    (testSuffix i = some .rtnyes → t.carry = true → t.pc = s.rstk.l0 ∧ t.rstk = popped s.rstk) ∧
    (isTest i = true → t = { s with carry := t.carry, pc := t.pc, rstk := t.rstk })

/-- In a step, only the instructions of 82n clear HST bits, and only RTNSXM and the environment set them. For every step that answers a next state there is the instruction it ran, and unless that is XM=0, SB=0, SR=0, MP=0, CLRHS or HS=0 n every HST bit that was set is still set; a bit that is newly set is XM after RTNSXM or a bit of HST_ASYNC that the step's boundary event sets. HST_ASYNC is the spec's decision D29; the event list and the boundary at the start of the step are the model's choices (log entries 4 and 32). -/
def Obligations.HstBitsAreSticky : Prop :=
  ∀ s t : State, step s = .next t → ∃ i, fetched (atBoundary s) = .ok i ∧ ∀ j < 4,
    (clearsHst i = false → s.hst.getLsbD j = true → t.hst.getLsbD j = true) ∧
    (t.hst.getLsbD j = true → s.hst.getLsbD j = true ∨ (i = .rtnsxm ∧ j = 0) ∨
      (s.cfg.hstAsync.getLsbD j = true ∧ ∃ e r, s.env = e :: r ∧ e.hstSet.getLsbD j = true))

/-- ST is written only by its five instructions, and its flags C to F only by ST=0 and ST=1. For every instruction: if exec answers a next state and the instruction is none of ST=0, ST=1, CSTEX, ST=C, CLRST, ST is unchanged; and unless it is ST=0 n or ST=1 n, flags C to F are unchanged. -/
def Obligations.FlagsCToFChangeOnlyByStZeroAndStOne : Prop :=
  ∀ (i : Instr) (s t : State), exec i s = .next t →
    (writesSt i = false → t.st = s.st) ∧
    ((∀ n, i ≠ .st0 n) → (∀ n, i ≠ .st1 n) → ∀ j, 12 ≤ j → t.st.getLsbD j = s.st.getLsbD j)

/-- Only calls, returns and tests with RTNYES touch RSTK, and INTE is written only by RTI. For every instruction: if exec answers a next state and it is no call, no return and no test whose suffix is RTNYES (so a test with GOYES too), RSTK is unchanged; INTE is unchanged unless the instruction is RTI, which sets it. INTE and its writer are the spec's decision D20 (log entry 22). -/
def Obligations.ReturnStackChangesOnlyByCallsAndReturns : Prop :=
  ∀ (i : Instr) (s t : State), exec i s = .next t →
    (usesStack i = false → t.rstk = s.rstk) ∧ (i ≠ .rti → t.inte = s.inte) ∧ (i = .rti → t.inte = true)

/-- A, C and P are written only by the instructions that the summary of the state lists for them. For every instruction: if exec answers a next state, A is unchanged unless it is APCEX, ABIT=0 or ABIT=1; C unless it is CPCEX, C+P+1, CPEX, C=P, CSTEX, C=ST, CBIT=0 or CBIT=1; P unless it is P=, P=P+1, P=P-1, CPEX or P=C. -/
def Obligations.WorkingRegistersHaveTheirWriters : Prop :=
  ∀ (i : Instr) (s t : State), exec i s = .next t →
    (writesA i = false → t.a = s.a) ∧ (writesC i = false → t.c = s.c) ∧ (writesP i = false → t.p = s.p)

/-- With INTERRUPTS = vector_0000F and INTE = 1 a signalled interrupt pushes the PC, clears INTE and goes to 0000Fh, after the HST bits were set. The state after such a boundary, in full: HST with the event's bits of HST_ASYNC, RSTK with the PC pushed, INTE 0, PC 0000Fh, the event consumed, nothing else changed. The mechanism is the spec's, from general knowledge (D19, log entry 22). -/
def Obligations.InterruptEntrySavesThePcAndDisables : Prop :=
  ∀ (s : State) (e : EnvEvent) (r : List EnvEvent), s.env = e :: r → s.cfg.interrupts = .vector0000F → s.inte = true →
    e.irq = true →
    atBoundary s = { s with hst := s.hst ||| (e.hstSet &&& s.cfg.hstAsync), rstk := pushed s.pc s.rstk, inte := false,
                            pc := 0x0000F#20, env := r }

/-- With INTERRUPTS = none, with INTE = 0, or with no signal, a boundary only sets HST bits of HST_ASYNC; flag F plays no part. The state after such a boundary, in full: HST with the event's bits of HST_ASYNC, the event consumed, nothing else changed, whatever ST holds (a signal while INTE = 0 is not recorded); with no event the state is as it was. That flag F plays no part is the spec's decision D25 (log entry 23), HST_ASYNC is D29; the unrecorded signal and the place of the boundary are log entry 32, the list of events log entry 4. -/
def Obligations.NoInterruptIsTakenOtherwise : Prop :=
  (∀ (s : State) (e : EnvEvent) (r : List EnvEvent), s.env = e :: r →
    (s.cfg.interrupts = .none ∨ s.inte = false ∨ e.irq = false) →
    atBoundary s = { s with hst := s.hst ||| (e.hstSet &&& s.cfg.hstAsync), env := r }) ∧
  (∀ s : State, s.env = [] → atBoundary s = s)

/-- RTI right after an interrupt entry resumes the interrupted code with interrupts enabled, the deepest stack level lost. For every state: RTI at the state after interrupt entry answers the state before it with INTE = 1, except that RSTK[7] is 00000h. Interrupt entry is the spec's decision D19 (log entry 22); the lost deepest level and the 00000h that enters are D8 (log entry 18). -/
def Obligations.RtiUndoesInterruptEntry : Prop :=
  ∀ s : State, exec .rti (interruptEntry s) = .next { s with inte := true, rstk := { s.rstk with l7 := 0x00000#20 } }

/-- MemRead of k nibbles is the number whose nibble i is the nibble at addr + i, and reads what MemWrite stored. memRead answers v exactly when v < 16^k and for every i < k the nibble at (addr + i) mod 2^20 is readable and is digit i of v; and for k up to 2^20, reading k nibbles back after memWrite of v gives v mod 16^k. The order is the spec's decision D4 (log entry 14). -/
def Obligations.MemReadTakesTheLowestAddressAsLeastSignificant : Prop :=
  (∀ (m : Memory) (addr : Addr) (k v : Nat), memRead m addr k = .ok v ↔
    v < 16 ^ k ∧ ∀ i < k, Memory.read m (after addr i) = some (BitVec.ofNat 4 (v / 16 ^ i))) ∧
  (∀ (m : Memory) (addr : Addr) (k v : Nat), k ≤ 2 ^ 20 → memRead (memWrite m addr k v) addr k = .ok (v % 16 ^ k))

/-- GOTO and GOLONG jump to the address of their operand plus the signed offset, modulo 2^20, and change nothing else. The state after GOTO is s with PC = (PC + 1 + sext_12(off)) mod 2^20, after GOLONG with PC = (PC + 2 + sext_16(off)) mod 2^20. The bases are the spec's decision D5 (log entry 13). -/
def Obligations.RelativeJumpsLandAtBasePlusOffset : Prop :=
  (∀ (off : BitVec 12) (s : State), exec (.goto off) s = .next { s with pc := target s.pc 1 (sext 12 off.toNat) }) ∧
  (∀ (off : BitVec 16) (s : State), exec (.golong off) s = .next { s with pc := target s.pc 2 (sext 16 off.toNat) })

/-- GOC jumps exactly when CARRY is 1, GONC exactly when it is 0; else they go on; neither changes CARRY. The state after each, in full: PC = (PC + 1 + sext_8(off)) mod 2^20 where it jumps, PC + 3 where it does not, and nothing else changes. The base PC + 1 is the spec's decision D5 (DEDUCED, log entry 13). -/
def Obligations.ConditionalJumpsReadTheCarry : Prop :=
  ∀ (off : BitVec 8) (s : State),
    exec (.goc off) s =
      .next { s with pc := if s.carry = true then target s.pc 1 (sext 8 off.toNat) else after s.pc 3 } ∧
    exec (.gonc off) s =
      .next { s with pc := if s.carry = true then after s.pc 3 else target s.pc 1 (sext 8 off.toNat) }

/-- GOVLNG jumps to its operand, PC=A and PC=C to field A of A and of C, changing nothing else. The state after each, in full; nibbles 5 to F of the register are ignored. PC=A and PC=C on a machine of level 2 (their encodings are from general knowledge, log entry 15). -/
def Obligations.AbsoluteAndRegisterJumpsTakeTheAddress : Prop :=
  (∀ (addr : Addr) (s : State), exec (.govlng addr) s = .next { s with pc := addr }) ∧
  (∀ s : State, 2 ≤ s.cfg.version.level →
    exec .pcFromA s = .next { s with pc := BitVec.ofNat 20 (slice s.a 4 0) } ∧
    exec .pcFromC s = .next { s with pc := BitVec.ofNat 20 (slice s.c 4 0) })

/-- PC=(A) and PC=(C) jump to the 5-nibble address stored at field A of A and of C, and are refused at the first nibble that is not readable. On a machine of level 1 (PC=(A)) or 2 (PC=(C)): if the five nibbles at (ea + i) mod 2^20 are readable, the next state is s with PC their number, least significant first; if the first unreadable one is nibble k, the refusal names (ea + k) mod 2^20. That five nibbles are read, the least significant first, is the spec's decisions D30 and D4 (DEDUCED, log entries 29 and 14); that an unreadable nibble is refused is D22 and the model's reading of MEM (DESIGN CHOICE, log entry 5); the levels are D28 (log entry 21), the encoding of PC=(C) is D12 (log entry 15). -/
def Obligations.IndirectJumpsReadFiveNibbles : Prop :=
  jumpsThrough .pcIndA 1 (fun s => slice s.a 4 0) ∧ jumpsThrough .pcIndC 2 (fun s => slice s.c 4 0)

/-- APCEX and CPCEX put the address of the next instruction in field A and jump to what field A held. On a machine of level 2 the state after each: PC is the old field A, field A is (PC + 4) mod 2^20, nibbles 5 to F of the register are unchanged, and nothing else changes. The saved value is the spec's decision D31 (log entry 19). -/
def Obligations.ExchangesWithPcSaveTheNextAddress : Prop :=
  exchangesPc .apcex (fun s => s.a) (fun s v => { s with a := v }) ∧ exchangesPc .cpcex (fun s => s.c) (fun s v => { s with c := v })

/-- A label in reach, and no other, assembles to an offset with which the jump, call or suffix lands on it; a label out of reach is rejected. For GOTO, GOLONG, GOSUB, GOSUBL, GOC, GONC and GOYES (suffix at nibble q): the assembler gives the instruction with offset off exactly when that offset leads from its base to the label (off not 00 for the last three), and rejects the label exactly when no distance r, -2^(w-1) <= r <= 2^(w-1) - 1 (r not 0 for the last three), reaches it. What it gives is well-formed and lands on the label: the state after it has PC the label, the call pushes the address after it, GOC jumps with CARRY 1, GONC with CARRY 0, a test with a true result. The functions of the assembler are the model's (log entry 31), the bases are the spec's decision D5 (log entry 13). -/
def Obligations.AssembledJumpsLandOnTheirLabel : Prop :=
  (assembles assembleGoto .goto 1 true ∧ assembles assembleGolong .golong 2 true ∧ assembles assembleGosub .gosub 4 true ∧
    assembles assembleGosubl .gosubl 6 true ∧ assembles assembleGoc .goc 1 false ∧ assembles assembleGonc .gonc 1 false ∧
    ∀ q, assembles (assembleGoyes q) .goyes q false) ∧
  (∀ (s : State) (dest : Addr) (i : Instr),
    (assembleGoto s.pc dest = some i ∨ assembleGolong s.pc dest = some i →
      i.wf = true ∧ exec i s = .next { s with pc := dest }) ∧
    (assembleGosub s.pc dest = some i →
      i.wf = true ∧ exec i s = .next { s with pc := dest, rstk := pushed (after s.pc 4) s.rstk }) ∧
    (assembleGosubl s.pc dest = some i →
      i.wf = true ∧ exec i s = .next { s with pc := dest, rstk := pushed (after s.pc 6) s.rstk }) ∧
    (assembleGoc s.pc dest = some i → i.wf = true ∧ (s.carry = true → exec i s = .next { s with pc := dest })) ∧
    (assembleGonc s.pc dest = some i → i.wf = true ∧ (s.carry = false → exec i s = .next { s with pc := dest }))) ∧
  (∀ (s : State) (dest : Addr) (q : Nat) (y : Suffix), assembleGoyes q s.pc dest = some y →
    y.wf = true ∧
    ∀ (i : Instr) (t : State), i.length = q + 2 → testSuffix i = some y → exec i s = .next t → t.carry = true →
      t = { s with carry := true, pc := dest })

/-- A call pushes the address after it, moves every level down, and jumps; the old deepest level is lost and nothing else changes. The state after each call, in full: GOSUB (4 nibbles) and GOSUBL (6) jump from the address after them by the signed offset, GOSBVL (7) to its operand. The pushed value, the base and the lost level are the spec's decisions (log entries 10, 13, 18, 30). -/
def Obligations.CallsPushTheNextAddress : Prop :=
  (∀ (off : BitVec 12) (s : State), exec (.gosub off) s =
    .next { s with pc := target s.pc 4 (sext 12 off.toNat), rstk := pushed (after s.pc 4) s.rstk }) ∧
  (∀ (off : BitVec 16) (s : State), exec (.gosubl off) s =
    .next { s with pc := target s.pc 6 (sext 16 off.toNat), rstk := pushed (after s.pc 6) s.rstk }) ∧
  (∀ (addr : Addr) (s : State), exec (.gosbvl addr) s =
    .next { s with pc := addr, rstk := pushed (after s.pc 7) s.rstk })

/-- RTN (01): PC becomes RSTK[0], the levels move up, 00000h enters at the bottom, no flag is written. RTN is encoded 01, two nibbles, level 0, 9 cycles, and on every state its next state is s with PC the top of RSTK and RSTK popped; nothing else changes. -/
def Obligations.RtnPopsThePc : Prop :=
  encodedAs .rtn [0#4, 1#4] ∧ levelZeroTaking .rtn 9 ∧ ∀ s, exec .rtn s = .next (returned s)

/-- RTNSC (02): CARRY becomes 1 and the subroutine returns. RTNSC is encoded 02, two nibbles, level 0, 9 cycles, and on every state its next state is the return with CARRY = 1; nothing else changes. -/
def Obligations.RtnscReturnsAndSetsTheCarry : Prop :=
  encodedAs .rtnsc [0#4, 2#4] ∧ levelZeroTaking .rtnsc 9 ∧ ∀ s, exec .rtnsc s = .next { returned s with carry := true }

/-- RTNCC (03): CARRY becomes 0 and the subroutine returns. RTNCC is encoded 03, two nibbles, level 0, 9 cycles, and on every state its next state is the return with CARRY = 0; nothing else changes. -/
def Obligations.RtnccReturnsAndClearsTheCarry : Prop :=
  encodedAs .rtncc [0#4, 3#4] ∧ levelZeroTaking .rtncc 9 ∧ ∀ s, exec .rtncc s = .next { returned s with carry := false }

/-- RTNSXM sets XM and returns, the other HST bits unchanged; RTI sets INTE and returns. The state after each, in full: RTNSXM sets bit 0 of HST and no other; RTI sets INTE, the model bit that the spec introduces by decision D20 (log entry 22). -/
def Obligations.RtnsxmAndRtiReturnAndSetTheirBit : Prop :=
  (∀ s, ∃ h : Nibble, exec .rtnsxm s = .next { returned s with hst := h } ∧
    ∀ j < 4, h.getLsbD j = (s.hst.getLsbD j || decide (j = 0))) ∧
  (∀ s, exec .rti s = .next { returned s with inte := true })

/-- RTNC (400) returns exactly when CARRY is 1 and RTNNC (500) exactly when it is 0; else they go on with RSTK unchanged. Each is encoded as the conditional jump with offset 00, three nibbles, level 0, takes 10 cycles when it returns and 3 when not, and its next state in full is the return or s with PC + 3. -/
def Obligations.ConditionalReturnsReadTheCarry : Prop :=
  encodedAs .rtnc [4#4, 0#4, 0#4] ∧ encodedAs .rtnnc [5#4, 0#4, 0#4] ∧ Instr.level .rtnc = 0 ∧ Instr.level .rtnnc = 0 ∧
  ∀ s, exec .rtnc s = .next (if s.carry = true then returned s else { s with pc := after s.pc 3 }) ∧
    exec .rtnnc s = .next (if s.carry = true then { s with pc := after s.pc 3 } else returned s) ∧
    cycles .rtnc s = some (if s.carry = true then 10 else 3) ∧ cycles .rtnnc s = some (if s.carry = true then 3 else 10)

/-- A return right after a call resumes at the instruction after the call; the levels above the deepest are as before. For GOSUB, GOSUBL and GOSBVL: the state after the call and RTN is s with PC the address after the call and RSTK[7] = 00000h. That a call pushes the address after it is the spec's decision D7 (log entry 30), the lost deepest level is D8 (log entry 18). -/
def Obligations.ReturnAfterCallResumesAfterTheCall : Prop :=
  ∀ (s : State) (k : Nat) (i : Instr), ((∃ off, i = .gosub off ∧ k = 4) ∨ (∃ off, i = .gosubl off ∧ k = 6) ∨ (∃ addr, i = .gosbvl addr ∧ k = 7)) →
    ∃ t, exec i s = .next t ∧
      exec .rtn t = .next { s with pc := after s.pc k, rstk := { s.rstk with l7 := 0x00000#20 } }

/-- k returns leave 00000h in the k deepest levels, after eight every return goes to 00000h; of any calls the last eight addresses are kept. A return pops and a call pushes. After k pops (k at most 8) the levels are the old ones less the first k, then k times 00000h; after eight or more, all are 00000h, and RTN then goes to 00000h. After any pushes the levels are the first eight of: the pushed addresses, last first, then the old levels; so a ninth push keeps the last eight and loses the first. The shape of the stack is the spec's decision D8 (log entry 18). -/
def Obligations.EightReturnsEmptyTheStack : Prop :=
  (∀ s : State, exec .rtn s = .next { s with pc := s.rstk.l0, rstk := popStk s.rstk }) ∧
  (∀ (addr : Addr) (s : State), exec (.gosbvl addr) s = .next { s with pc := addr, rstk := pushStk s.rstk (after s.pc 7) }) ∧
  (∀ (k : RStk) (n : Nat), n ≤ 8 → levels (popStk^[n] k) = (levels k).drop n ++ List.replicate n 0x00000#20) ∧
  (∀ (k : RStk) (n : Nat), 8 ≤ n → popStk^[n] k = RStk.zero) ∧
  (∀ s : State, s.rstk = RStk.zero → exec .rtn s = .next { s with pc := 0x00000#20 }) ∧
  (∀ (k : RStk) (vs : List Addr), levels (vs.foldl pushStk k) = (vs.reverse ++ levels k).take 8) ∧
  (∀ (k : RStk) (v1 v2 v3 v4 v5 v6 v7 v8 v9 : Addr),
    levels ([v1, v2, v3, v4, v5, v6, v7, v8, v9].foldl pushStk k) = [v9, v8, v7, v6, v5, v4, v3, v2])

/-- GOYES and RTNYES, the PC at their first nibble and the test's result in CARRY, jump or return when the test is true, else move past. The state after each, in full. That the suffix rows have a meaning of their own, with the PC at the suffix and the result in CARRY, is the model's (DEDUCED, log entry 8); the base of GOYES, the address of the suffix, is the spec's decision D5 (DEDUCED, log entry 13). -/
def Obligations.SuffixesJumpOrReturnWhenTheTestIsTrue : Prop :=
  (∀ (off : BitVec 8) (s : State), exec (.goyes off) s =
    .next { s with pc := if s.carry = true then target s.pc 0 (sext 8 off.toNat) else after s.pc 2 }) ∧
  (∀ s : State, exec .rtnyes s = .next (if s.carry = true then returned s else { s with pc := after s.pc 2 }))

/-- ?A=B, ?B=C, ?A=C, ?C=D and ?A#B, ?B#C, ?A#C, ?C#D compare the selected nibbles of two registers. For every field, suffix and state, on field A and on the other fields: the condition is the (in)equality of the two slices (X div 16^lo) mod 16^d. The state after the test is given in full: CARRY is the result; a true test jumps (base PC + 3, decision D5, log entry 13) or returns, a false one goes on; nothing else changes. -/
def Obligations.EqualityTestsCompareOneField : Prop :=
  comparesFields .eqABonF .eqABonA (fun u v => decide (u = v)) (fun s => s.a) (fun s => s.b) ∧
  comparesFields .eqBConF .eqBConA (fun u v => decide (u = v)) (fun s => s.b) (fun s => s.c) ∧
  comparesFields .eqAConF .eqAConA (fun u v => decide (u = v)) (fun s => s.a) (fun s => s.c) ∧
  comparesFields .eqCDonF .eqCDonA (fun u v => decide (u = v)) (fun s => s.c) (fun s => s.d) ∧
  comparesFields .neABonF .neABonA (fun u v => decide (u ≠ v)) (fun s => s.a) (fun s => s.b) ∧
  comparesFields .neBConF .neBConA (fun u v => decide (u ≠ v)) (fun s => s.b) (fun s => s.c) ∧
  comparesFields .neAConF .neAConA (fun u v => decide (u ≠ v)) (fun s => s.a) (fun s => s.c) ∧
  comparesFields .neCDonF .neCDonA (fun u v => decide (u ≠ v)) (fun s => s.c) (fun s => s.d)

/-- ?A=0 to ?D=0 and ?A#0 to ?D#0 compare the selected nibbles of a register with zero. For every field, suffix and state, on field A and on the other fields: the condition is that the slice is, or is not, 0. The state after the test is given in full: CARRY is the result; a true test jumps (base PC + 3, decision D5, log entry 13) or returns, a false one goes on; nothing else changes. -/
def Obligations.ZeroTestsCompareOneFieldWithZero : Prop :=
  comparesFields .eqA0onF .eqA0onA (fun u v => decide (u = v)) (fun s => s.a) zeroReg ∧
  comparesFields .eqB0onF .eqB0onA (fun u v => decide (u = v)) (fun s => s.b) zeroReg ∧
  comparesFields .eqC0onF .eqC0onA (fun u v => decide (u = v)) (fun s => s.c) zeroReg ∧
  comparesFields .eqD0onF .eqD0onA (fun u v => decide (u = v)) (fun s => s.d) zeroReg ∧
  comparesFields .neA0onF .neA0onA (fun u v => decide (u ≠ v)) (fun s => s.a) zeroReg ∧
  comparesFields .neB0onF .neB0onA (fun u v => decide (u ≠ v)) (fun s => s.b) zeroReg ∧
  comparesFields .neC0onF .neC0onA (fun u v => decide (u ≠ v)) (fun s => s.c) zeroReg ∧
  comparesFields .neD0onF .neD0onA (fun u v => decide (u ≠ v)) (fun s => s.d) zeroReg

/-- ?A>B, ?B>C, ?C>A, ?D>C and ?A<B, ?B<C, ?C<A, ?D<C compare the selected nibbles as natural numbers. For every field, suffix and state, on field A and on the other fields: the condition is the strict order of the two slices as natural numbers. The state after the test is given in full: CARRY is the result; a true test jumps (base PC + 3, decision D5, log entry 13) or returns, a false one goes on; nothing else changes. -/
def Obligations.StrictOrderTestsCompareUnsigned : Prop :=
  comparesFields .gtABonF .gtABonA (fun u v => decide (u > v)) (fun s => s.a) (fun s => s.b) ∧
  comparesFields .gtBConF .gtBConA (fun u v => decide (u > v)) (fun s => s.b) (fun s => s.c) ∧
  comparesFields .gtCAonF .gtCAonA (fun u v => decide (u > v)) (fun s => s.c) (fun s => s.a) ∧
  comparesFields .gtDConF .gtDConA (fun u v => decide (u > v)) (fun s => s.d) (fun s => s.c) ∧
  comparesFields .ltABonF .ltABonA (fun u v => decide (u < v)) (fun s => s.a) (fun s => s.b) ∧
  comparesFields .ltBConF .ltBConA (fun u v => decide (u < v)) (fun s => s.b) (fun s => s.c) ∧
  comparesFields .ltCAonF .ltCAonA (fun u v => decide (u < v)) (fun s => s.c) (fun s => s.a) ∧
  comparesFields .ltDConF .ltDConA (fun u v => decide (u < v)) (fun s => s.d) (fun s => s.c)

/-- ?A>=B, ?B>=C, ?C>=A, ?D>=C and ?A<=B, ?B<=C, ?C<=A, ?D<=C compare the selected nibbles as natural numbers. For every field, suffix and state, on field A and on the other fields: the condition is the weak order of the two slices as natural numbers. The state after the test is given in full: CARRY is the result; a true test jumps (base PC + 3, decision D5, log entry 13) or returns, a false one goes on; nothing else changes. -/
def Obligations.WeakOrderTestsCompareUnsigned : Prop :=
  comparesFields .geABonF .geABonA (fun u v => decide (u ≥ v)) (fun s => s.a) (fun s => s.b) ∧
  comparesFields .geBConF .geBConA (fun u v => decide (u ≥ v)) (fun s => s.b) (fun s => s.c) ∧
  comparesFields .geCAonF .geCAonA (fun u v => decide (u ≥ v)) (fun s => s.c) (fun s => s.a) ∧
  comparesFields .geDConF .geDConA (fun u v => decide (u ≥ v)) (fun s => s.d) (fun s => s.c) ∧
  comparesFields .leABonF .leABonA (fun u v => decide (u ≤ v)) (fun s => s.a) (fun s => s.b) ∧
  comparesFields .leBConF .leBConA (fun u v => decide (u ≤ v)) (fun s => s.b) (fun s => s.c) ∧
  comparesFields .leCAonF .leCAonA (fun u v => decide (u ≤ v)) (fun s => s.c) (fun s => s.a) ∧
  comparesFields .leDConF .leDConA (fun u v => decide (u ≤ v)) (fun s => s.d) (fun s => s.c)

/-- ?P= n and ?P# n test whether P equals the digit. For every digit, suffix and state the condition is P = n, respectively P != n, as numbers. The state after the test is given in full: CARRY is the result; a true test jumps (base PC + 3, decision D5, log entry 13) or returns, a false one goes on; nothing else changes. -/
def Obligations.PointerTestsCompareP : Prop :=
  ∀ (n : Nibble) (y : Suffix) (s : State),
    exec (.tstPEq n y) s = .next (afterTest s 3 (decide (s.p.toNat = n.toNat)) y) ∧
    exec (.tstPNe n y) s = .next (afterTest s 3 (decide (s.p.toNat ≠ n.toNat)) y)

/-- ?ST=0 n and ?ST=1 n test flag n, for all sixteen flags. For every flag number, suffix and state the condition is that bit n of ST, (ST div 2^n) mod 2, is 0, respectively 1. Which opcode tests for 0 is the spec's resolution of conflict C3 (log entry 11). The state after the test is given in full: CARRY is the result; a true test jumps (base PC + 3, decision D5, log entry 13) or returns, a false one goes on; nothing else changes. -/
def Obligations.FlagTestsReadOneFlag : Prop :=
  ∀ (n : Nibble) (y : Suffix) (s : State),
    exec (.tstSt0 n y) s = .next (afterTest s 3 (decide (s.st.toNat / 2 ^ n.toNat % 2 = 0)) y) ∧
    exec (.tstSt1 n y) s = .next (afterTest s 3 (decide (s.st.toNat / 2 ^ n.toNat % 2 = 1)) y)

/-- ?XM=0, ?SB=0, ?SR=0, ?MP=0 test bits 0, 1, 2, 3 of HST. For every suffix and state the condition is that the bit is 0, and HST is unchanged. The state after the test is given in full: CARRY is the result; a true test jumps (base PC + 3, decision D5, log entry 13) or returns, a false one goes on; nothing else changes. -/
def Obligations.HstTestsReadOneBit : Prop :=
  ∀ (y : Suffix) (s : State),
    exec (.tstXm0 y) s = .next (afterTest s 3 (!s.hst.getLsbD 0) y) ∧
    exec (.tstSb0 y) s = .next (afterTest s 3 (!s.hst.getLsbD 1) y) ∧
    exec (.tstSr0 y) s = .next (afterTest s 3 (!s.hst.getLsbD 2) y) ∧
    exec (.tstMp0 y) s = .next (afterTest s 3 (!s.hst.getLsbD 3) y)

/-- ?HS=0 n is true exactly when every HST bit the mask selects is 0, and is refused where HS_MASK_GENERAL does not admit the mask. For every mask, suffix and state: where the parameter is true or the mask is listed, the state after the test is given in full, with the condition that every bit of n that is 1 is 0 in HST (an empty mask is true); elsewhere it is refused. The mask reading is the spec's decision D10; the refusal inside the meaning, by the name maskNotAdmitted, is the model's choice (DESIGN CHOICE, log entry 20); the base PC + 3 of the suffix is D5 (log entry 13). -/
def Obligations.GeneralHstTestReadsTheMask : Prop :=
  ∀ (n : Nibble) (y : Suffix) (s : State),
    (s.cfg.hsMaskGeneral = true ∨ listedTest n → exec (.tstHs0 n y) s = .next (afterTest s 3 (allClear s.hst n) y)) ∧
    (s.cfg.hsMaskGeneral = false → ¬ listedTest n → exec (.tstHs0 n y) s = .refused (.maskNotAdmitted n))

/-- ?ABIT=0, ?ABIT=1, ?CBIT=0, ?CBIT=1 test bit n (0 to 15) of A or C on a machine of level 2. For every bit number, suffix and state of level 2 the condition is on (X div 2^n) mod 2; the suffix stands at nibble 5. That the operand is one digit, naming bits 0 to 15 from the least significant end, is the spec's decision D13 (DEDUCED, log entry 16), the encodings are D12 (log entry 15), the level is D28 (log entry 21). The state after the test is given in full: CARRY is the result; a true test jumps (base PC + 5, decision D5, log entry 13) or returns, a false one goes on; nothing else changes. -/
def Obligations.RegisterBitTestsReadOneBit : Prop :=
  testsRegBit .tstAbit0 false (fun s => s.a) ∧ testsRegBit .tstAbit1 true (fun s => s.a) ∧
  testsRegBit .tstCbit0 false (fun s => s.c) ∧ testsRegBit .tstCbit1 true (fun s => s.c)

/-- A test takes the cycles of a true result exactly when it leaves CARRY 1, with d the nibbles of the field. For every test with a known count: the cycle count before it is the count for true if exec leaves CARRY 1 and that for false otherwise; register tests 13 + d and 6 + d, flag tests 14 and 7, the others 13 and 6. The counts are the source's, but that of ?HS=0 n, which is the spec's decision D35 (log entry 27). -/
def Obligations.TestCyclesFollowTheResult : Prop :=
  ∀ (i : Instr) (s t : State) (whenTrue whenFalse : Nat), testCost s.p i = some (whenTrue, whenFalse) → exec i s = .next t →
    cycles i s = some (if t.carry = true then whenTrue else whenFalse)

/-- P= n (2n): P becomes the digit, CARRY is not changed. For every digit: P= n is encoded 2n, two nibbles, level 0, 2 cycles, and on every state its next state is s with P = n and PC + 2; nothing else changes. -/
def Obligations.PSetPutsTheDigitInP : Prop :=
  ∀ n : Nibble, encodedAs (.pSet n) [2#4, n] ∧ levelZeroTaking (.pSet n) 2 ∧
    ∀ s, exec (.pSet n) s = .next { s with p := n, pc := after s.pc 2 }

/-- P=P+1 and P=P-1 count modulo 16 and set CARRY exactly on the wrap. The state after each, in full: P is (P + 1) mod 16 with CARRY = 1 exactly when P was F, respectively (P + 15) mod 16 with CARRY = 1 exactly when P was 0; PC + 2; nothing else changes. The carry is the spec's decision D14 (log entry 17). -/
def Obligations.PIncrementAndDecrementWrapWithCarry : Prop :=
  ∀ s : State,
    exec .pInc s = .next { s with p := BitVec.ofNat 4 ((s.p.toNat + 1) % 16), carry := decide (s.p.toNat = 15), pc := after s.pc 2 } ∧
    exec .pDec s = .next { s with p := BitVec.ofNat 4 ((s.p.toNat + 15) % 16), carry := decide (s.p.toNat = 0), pc := after s.pc 2 }

/-- C+P+1 adds P + 1 to field A of C modulo 2^20, CARRY the carry out, nibbles 5 to F unchanged. The state after it: C{A} is (C{A} + P + 1) mod 2^20, C{15:5} is unchanged, CARRY is 1 exactly when the sum reaches 2^20, PC + 3, nothing else changes. Width and carry are the spec's decision D15 (log entry 17). -/
def Obligations.CAddP1AddsInFieldA : Prop :=
  ∀ s : State, ∃ v : Reg64,
    exec .cAddP1 s = .next { s with c := v, carry := decide (2 ^ 20 ≤ slice s.c 4 0 + s.p.toNat + 1), pc := after s.pc 3 } ∧
    slice v 4 0 = (slice s.c 4 0 + s.p.toNat + 1) % 2 ^ 20 ∧ slice v 15 5 = slice s.c 15 5

/-- CPEX n (80Fn) exchanges P and nibble n of C. For every n: encoded 80Fn, four nibbles, level 0, 6 cycles; on every state P becomes nibble n of C, nibble n of C becomes P, the other fifteen nibbles of C are unchanged, PC + 4, nothing else changes; executed twice it restores both. -/
def Obligations.CpexExchangesPAndOneNibble : Prop :=
  ∀ n : Nibble, encodedAs (.cpex n) [8#4, 0#4, 15#4, n] ∧ levelZeroTaking (.cpex n) 6 ∧
    ∀ s, ∃ v : Reg64, exec (.cpex n) s = .next { s with c := v, p := BitVec.ofNat 4 (slice s.c n.toNat n.toNat), pc := after s.pc 4 } ∧
      (∀ j < 16, slice v j j = if j = n.toNat then s.p.toNat else slice s.c j j) ∧
      exec (.cpex n) { s with c := v, p := BitVec.ofNat 4 (slice s.c n.toNat n.toNat), pc := after s.pc 4 } =
        .next { s with pc := after s.pc 8 }

/-- P=C n (80Dn) copies nibble n of C into P, C=P n (80Cn) copies P into nibble n of C. For every n: four nibbles, level 0, 6 cycles; after P=C n, P is nibble n of C and C is unchanged; after C=P n, nibble n of C is P, the other fifteen nibbles and P are unchanged; PC + 4, nothing else changes. -/
def Obligations.PFromCAndCFromPCopyOneNibble : Prop :=
  ∀ n : Nibble, encodedAs (.pFromC n) [8#4, 0#4, 13#4, n] ∧ levelZeroTaking (.pFromC n) 6 ∧
    encodedAs (.cFromP n) [8#4, 0#4, 12#4, n] ∧ levelZeroTaking (.cFromP n) 6 ∧
    (∀ s, exec (.pFromC n) s = .next { s with p := BitVec.ofNat 4 (slice s.c n.toNat n.toNat), pc := after s.pc 4 }) ∧
    (∀ s, ∃ v : Reg64, exec (.cFromP n) s = .next { s with c := v, pc := after s.pc 4 } ∧
      ∀ j < 16, slice v j j = if j = n.toNat then s.p.toNat else slice s.c j j)

/-- ABIT=0, ABIT=1, CBIT=0, CBIT=1 write bit n (0 to 15) of A or C on a machine of level 2 and leave the other 63 bits. For every n and state of level 2: the next state has bit n of the register 0, respectively 1, every other bit as before, PC + 5, and nothing else changed. Operand and encodings are the spec's decisions (log entries 15, 16). -/
def Obligations.BitInstructionsWriteOneBit : Prop :=
  writesRegBit .abit0 false (fun s => s.a) (fun s v => { s with a := v }) ∧
  writesRegBit .abit1 true (fun s => s.a) (fun s v => { s with a := v }) ∧
  writesRegBit .cbit0 false (fun s => s.c) (fun s v => { s with c := v }) ∧
  writesRegBit .cbit1 true (fun s => s.c) (fun s v => { s with c := v })

/-- ST=0 n (84n) clears flag n and ST=1 n (85n) sets it, for all sixteen flags, and nothing else changes. For every n: three nibbles, level 0, 4 cycles; on every state the next state has flag n 0, respectively 1, the other fifteen flags as before, PC + 3, and nothing else changed (INTE among it). That 84n clears and 85n sets is the spec's resolution of conflict C2, against the function texts of its source (log entry 11). -/
def Obligations.StZeroAndStOneWriteOneFlag : Prop :=
  ∀ n : Nibble, encodedAs (.st0 n) [8#4, 4#4, n] ∧ levelZeroTaking (.st0 n) 4 ∧
    encodedAs (.st1 n) [8#4, 5#4, n] ∧ levelZeroTaking (.st1 n) 4 ∧
    (∀ s, ∃ w : BitVec 16, exec (.st0 n) s = .next { s with st := w, pc := after s.pc 3 } ∧
      ∀ j < 16, w.getLsbD j = if j = n.toNat then false else s.st.getLsbD j) ∧
    (∀ s, ∃ w : BitVec 16, exec (.st1 n) s = .next { s with st := w, pc := after s.pc 3 } ∧
      ∀ j < 16, w.getLsbD j = if j = n.toNat then true else s.st.getLsbD j)

/-- CSTEX, C=ST and ST=C move flags B to 0 between ST and field X of C, flags F to C and nibbles 15 to 3 unchanged. The state after each: bit i of C{X} and flag i are exchanged or copied for i from 0 to 11, every other bit of C and of ST is as before, PC + 2, nothing else changes. The pairing of bits is the spec's decision D26 (log entry 34). -/
def Obligations.FlagTransfersMoveTwelveFlags : Prop :=
  (∀ s : State, ∃ (v : Reg64) (w : BitVec 16), exec .cstex s = .next { s with c := v, st := w, pc := after s.pc 2 } ∧
    (∀ j < 64, v.getLsbD j = if j < 12 then s.st.getLsbD j else s.c.getLsbD j) ∧
    (∀ j < 16, w.getLsbD j = if j < 12 then s.c.getLsbD j else s.st.getLsbD j)) ∧
  (∀ s : State, ∃ v : Reg64, exec .cFromSt s = .next { s with c := v, pc := after s.pc 2 } ∧
    ∀ j < 64, v.getLsbD j = if j < 12 then s.st.getLsbD j else s.c.getLsbD j) ∧
  (∀ s : State, ∃ w : BitVec 16, exec .stFromC s = .next { s with st := w, pc := after s.pc 2 } ∧
    ∀ j < 16, w.getLsbD j = if j < 12 then s.c.getLsbD j else s.st.getLsbD j)

/-- CLRST (08) clears flags B to 0 and keeps flags F to C. CLRST is encoded 08, two nibbles, level 0, 6 cycles; on every state the next state has flags 0 to 11 clear, flags 12 to 15 as before, PC + 2, and nothing else changed. -/
def Obligations.ClrstClearsTwelveFlags : Prop :=
  encodedAs .clrst [0#4, 8#4] ∧ levelZeroTaking .clrst 6 ∧
  ∀ s, ∃ w : BitVec 16, exec .clrst s = .next { s with st := w, pc := after s.pc 2 } ∧
    ∀ j < 16, w.getLsbD j = if j < 12 then false else s.st.getLsbD j

/-- XM=0, SB=0, SR=0, MP=0 clear bit 0, 1, 2, 3 of HST and CLRHS clears all four; nothing else changes. The five are encoded 821, 822, 824, 828, 82F, three nibbles, level 0, 3 cycles; on every state exactly the named bits of HST are cleared, PC + 3, and nothing else changes. -/
def Obligations.NamedHstClearsClearTheirBits : Prop :=
  (encodedAs .xm0 [8#4, 2#4, 1#4] ∧ levelZeroTaking .xm0 3 ∧ clearsHstBits .xm0 3 (fun j => decide (j = 0))) ∧
  (encodedAs .sb0 [8#4, 2#4, 2#4] ∧ levelZeroTaking .sb0 3 ∧ clearsHstBits .sb0 3 (fun j => decide (j = 1))) ∧
  (encodedAs .sr0 [8#4, 2#4, 4#4] ∧ levelZeroTaking .sr0 3 ∧ clearsHstBits .sr0 3 (fun j => decide (j = 2))) ∧
  (encodedAs .mp0 [8#4, 2#4, 8#4] ∧ levelZeroTaking .mp0 3 ∧ clearsHstBits .mp0 3 (fun j => decide (j = 3))) ∧
  (encodedAs .clrhs [8#4, 2#4, 15#4] ∧ levelZeroTaking .clrhs 3 ∧ clearsHstBits .clrhs 3 (fun _ => true))

/-- HS=0 n clears exactly the HST bits the mask selects, and is refused where HS_MASK_GENERAL does not admit the mask. For every mask and state: where the parameter is true or the mask is listed, bit j of HST is cleared exactly when bit j of n is 1, PC + 3, and nothing else changes (n = 0 clears nothing); elsewhere it is refused. That every mask is admitted is the spec's decision D11; the refusal inside the meaning, by the name maskNotAdmitted, is the model's choice (DESIGN CHOICE, log entry 20). -/
def Obligations.GeneralHstClearClearsTheMask : Prop :=
  ∀ (n : Nibble) (s : State),
    (s.cfg.hsMaskGeneral = true ∨ listedClear n → ∃ h : Nibble, exec (.hs0 n) s = .next { s with hst := h, pc := after s.pc 3 } ∧
      ∀ j < 4, h.getLsbD j = (s.hst.getLsbD j && !n.getLsbD j)) ∧
    (s.cfg.hsMaskGeneral = false → ¬ listedClear n → exec (.hs0 n) s = .refused (.maskNotAdmitted n))
end

