-- ==== Sys2Proof/Laws/Nibbles.lean ====
section
/-!
SUPPORT. Numbers and their nibbles: `leValue` and `nibblesLE` are inverse, and a slice of a register reads and writes the
digits it names.
-/

namespace Sys2Proof

@[simp] theorem nibblesLE_length (k v : Nat) : (nibblesLE k v).length = k := by
  induction k generalizing v with
  | zero => rfl
  | succ k ih => simp [nibblesLE, ih]

@[simp] theorem encodeSuffix_length (y : Suffix) : (encodeSuffix y).length = 2 := by
  cases y <;> simp [encodeSuffix]

theorem leValue_lt (l : List Nibble) : leValue l < 16 ^ l.length := by
  induction l with
  | nil => simp [leValue]
  | cons n r ih =>
    have := n.isLt
    simp only [leValue, List.length_cons, Nat.pow_succ]
    omega

/-- Reading back the digits of a number gives the number, reduced to that many digits. -/
theorem leValue_nibblesLE (k v : Nat) : leValue (nibblesLE k v) = v % 16 ^ k := by
  induction k generalizing v with
  | zero => simp [nibblesLE, leValue, Nat.mod_one]
  | succ k ih =>
    rw [nibblesLE, leValue, ih, Nat.pow_succ, Nat.mul_comm (16 ^ k) 16, Nat.mod_mul]
    simp

/-- The digits of the number that some nibbles form are these nibbles. -/
theorem nibblesLE_leValue (l : List Nibble) : nibblesLE l.length (leValue l) = l := by
  induction l with
  | nil => rfl
  | cons n r ih =>
    have hn := n.isLt
    have hd : (n.toNat + 16 * leValue r) / 16 = leValue r := by omega
    have hm : BitVec.ofNat 4 (n.toNat + 16 * leValue r) = n := by
      apply BitVec.eq_of_toNat_eq
      simp only [BitVec.toNat_ofNat]
      omega
    simp only [List.length_cons, leValue, nibblesLE, hd, hm, ih]

namespace Machine

/-- A slice is the register shifted down and reduced: `X{lo+d-1:lo} = (X div 16^lo) mod 16^d` (00_scope.md R9). -/
theorem getNibs_toNat (x : Reg64) (lo d : Nat) : (getNibs x lo d).toNat = x.toNat / 16 ^ lo % 16 ^ d := by
  have h1 : (2 : Nat) ^ (4 * lo) = 16 ^ lo := by rw [Nat.pow_mul]
  have h2 : (2 : Nat) ^ (4 * d) = 16 ^ d := by rw [Nat.pow_mul]
  simp [getNibs, BitVec.extractLsb'_toNat, Nat.shiftRight_eq_div_pow, h1, h2]

/-- Bit `j` of a register after a slice of it was written. -/
theorem setNibs_getLsbD (x : Reg64) (lo d : Nat) (v : BitVec (4 * d)) (j : Nat) (hj : j < 64) :
    (setNibs x lo d v).getLsbD j = if 4 * lo ≤ j ∧ j < 4 * (lo + d) then v.getLsbD (j - 4 * lo) else x.getLsbD j := by
  by_cases h1 : j < 4 * lo
  · have : ¬ (4 * lo ≤ j) := by omega
    simp [setNibs, h1, this, hj]
  · have h1' : 4 * lo ≤ j := by omega
    by_cases h2 : j < 4 * (lo + d)
    · have h3 : j - 4 * lo < 4 * d := by omega
      simp [setNibs, h1, h1', h2, h3, hj]
    · have h3 : ¬ (j - 4 * lo < 4 * d) := by omega
      simp [setNibs, h1, h1', h2, h3, hj, BitVec.getLsbD_of_ge v (j - 4 * lo) (by omega)]

/-- Reading the slice that was just written gives what was written. -/
theorem getNibs_setNibs_same (x : Reg64) (lo d : Nat) (v : BitVec (4 * d)) (h : lo + d ≤ 16) :
    getNibs (setNibs x lo d v) lo d = v := by
  apply BitVec.eq_of_getLsbD_eq
  intro j hj
  rw [getNibs, BitVec.getLsbD_extractLsb', setNibs_getLsbD x lo d v (4 * lo + j) (by omega)]
  have h1 : 4 * lo + j < 4 * (lo + d) := by omega
  simp [hj, h1]

/-- A slice that does not meet the one written is unchanged. -/
theorem getNibs_setNibs_other (x : Reg64) (lo d lo' d' : Nat) (v : BitVec (4 * d)) (h : lo' + d' ≤ lo ∨ lo + d ≤ lo')
    (h16 : lo' + d' ≤ 16) : getNibs (setNibs x lo d v) lo' d' = getNibs x lo' d' := by
  apply BitVec.eq_of_getLsbD_eq
  intro j hj
  rw [getNibs, BitVec.getLsbD_extractLsb', setNibs_getLsbD x lo d v (4 * lo' + j) (by omega), getNibs,
    BitVec.getLsbD_extractLsb']
  have h1 : ¬ (4 * lo ≤ 4 * lo' + j ∧ 4 * lo' + j < 4 * (lo + d)) := by omega
  simp [h1]

end Machine

end Sys2Proof
end

