-- ==== Sys2Proof/Laws/Memory.lean ====
section
/-!
SUPPORT. Memory: a read after a write, and every operation keeps the canonical form.
-/

namespace Sys2Proof.Machine

/-- A nibble that was just written reads as written. -/
theorem Memory.read_write_same (m : Memory) (addr : Addr) (n : Nibble) :
    Memory.read (Memory.write m addr n) addr = some n := by
  induction m with
  | nil => simp [Memory.write, Memory.read]
  | cons cell r ih =>
    obtain ⟨k, v⟩ := cell
    by_cases h1 : addr.toNat < k
    · simp [Memory.write, Memory.read, h1]
    · by_cases h2 : addr.toNat = k
      · simp [Memory.write, Memory.read, h2]
      · have h3 : ¬ (k = addr.toNat) := fun h => h2 h.symm
        simp [Memory.write, Memory.read, h1, h2, h3, ih]

/-- A write leaves every other address alone. -/
theorem Memory.read_write_other (m : Memory) (addr other : Addr) (n : Nibble) (h : other ≠ addr) :
    Memory.read (Memory.write m addr n) other = Memory.read m other := by
  have hne : addr.toNat ≠ other.toNat := fun he => h (BitVec.eq_of_toNat_eq he.symm)
  induction m with
  | nil => simp [Memory.write, Memory.read, hne]
  | cons cell r ih =>
    obtain ⟨k, v⟩ := cell
    by_cases h1 : addr.toNat < k
    · simp [Memory.write, Memory.read, h1, hne]
    · by_cases h2 : addr.toNat = k
      · have h3 : ¬ (k = other.toNat) := fun he => hne (h2.trans he)
        simp [Memory.write, Memory.read, h2, h3]
      · by_cases h3 : k = other.toNat
        · have h4 : ¬ (addr.toNat < other.toNat) := by omega
          simp [Memory.write, Memory.read, h4, hne, h3]
        · simp [Memory.write, Memory.read, h1, h2, h3, ih]

/-- The addresses a write lists are the old ones and the one written. -/
theorem Memory.mem_write_addrs (m : Memory) (addr : Addr) (n : Nibble) (k : Nat) :
    k ∈ (Memory.write m addr n).map Prod.fst ↔ k = addr.toNat ∨ k ∈ m.map Prod.fst := by
  induction m with
  | nil => simp [Memory.write]
  | cons cell r ih =>
    obtain ⟨k', v⟩ := cell
    by_cases h1 : addr.toNat < k'
    · simp [Memory.write, h1]
    · by_cases h2 : addr.toNat = k'
      · simp [Memory.write, h2]
      · simp only [Memory.write, h1, h2, if_false, List.map_cons, List.mem_cons, ih]
        tauto

/-- A write keeps the addresses strictly rising. -/
theorem Memory.write_sorted (m : Memory) (addr : Addr) (n : Nibble) (h : (m.map Prod.fst).Pairwise (· < ·)) :
    ((Memory.write m addr n).map Prod.fst).Pairwise (· < ·) := by
  induction m with
  | nil => simp [Memory.write]
  | cons cell r ih =>
    obtain ⟨k, v⟩ := cell
    simp only [List.map_cons, List.pairwise_cons] at h
    by_cases h1 : addr.toNat < k
    · simp only [Memory.write, h1, if_true, List.map_cons, List.pairwise_cons, List.mem_cons]
      refine ⟨?_, h.1, h.2⟩
      rintro j (rfl | hj)
      · exact h1
      · exact Nat.lt_trans h1 (h.1 j hj)
    · by_cases h2 : addr.toNat = k
      · simp only [Memory.write, h2, Nat.lt_irrefl, if_false, if_true, List.map_cons, List.pairwise_cons]
        exact h
      · simp only [Memory.write, h1, h2, if_false, List.map_cons, List.pairwise_cons]
        refine ⟨?_, ih h.2⟩
        intro j hj
        rcases (Memory.mem_write_addrs r addr n j).1 hj with rfl | hj
        · omega
        · exact h.1 j hj

/-- A write stores a nibble at an address of the space, and keeps the cells that were so. -/
theorem Memory.write_cells (m : Memory) (addr : Addr) (n : Nibble)
    (h : ∀ cell ∈ m, cell.1 < 2 ^ 20 ∧ cell.2.toNat < 16) :
    ∀ cell ∈ Memory.write m addr n, cell.1 < 2 ^ 20 ∧ cell.2.toNat < 16 := by
  have hn : (n.setWidth 8).toNat < 16 := by
    have := n.isLt
    simp [BitVec.toNat_setWidth]
    omega
  have ha : addr.toNat < 2 ^ 20 := addr.isLt
  induction m with
  | nil =>
    intro cell hc
    simp only [Memory.write, List.mem_singleton] at hc
    subst hc
    exact ⟨ha, hn⟩
  | cons head r ih =>
    obtain ⟨k, v⟩ := head
    have hr : ∀ cell ∈ r, cell.1 < 2 ^ 20 ∧ cell.2.toNat < 16 := fun cell hc => h cell (List.mem_cons_of_mem _ hc)
    have hk := h (k, v) List.mem_cons_self
    intro cell hc
    by_cases h1 : addr.toNat < k
    · simp only [Memory.write, h1, if_true, List.mem_cons] at hc
      rcases hc with rfl | rfl | hc
      · exact ⟨ha, hn⟩
      · exact hk
      · exact hr cell hc
    · by_cases h2 : addr.toNat = k
      · simp only [Memory.write, h2, Nat.lt_irrefl, if_false, if_true, List.mem_cons] at hc
        rcases hc with rfl | hc
        · exact ⟨hk.1, hn⟩
        · exact hr cell hc
      · simp only [Memory.write, h1, h2, if_false, List.mem_cons] at hc
        rcases hc with rfl | hc
        · exact hk
        · exact ih hr cell hc

/-- What the canonical form says. -/
theorem Memory.wf_iff (m : Memory) :
    Memory.wf m = true ↔
      (m.map Prod.fst).Pairwise (· < ·) ∧ ∀ cell ∈ m, cell.1 < 2 ^ 20 ∧ cell.2.toNat < 16 := by
  simp [Memory.wf]

theorem Memory.write_wf (m : Memory) (addr : Addr) (n : Nibble) (h : Memory.wf m = true) :
    Memory.wf (Memory.write m addr n) = true := by
  rw [Memory.wf_iff] at h ⊢
  exact ⟨Memory.write_sorted m addr n h.1, Memory.write_cells m addr n h.2⟩

theorem writeNibbles_wf (l : List Nibble) (m : Memory) (addr : Addr) (h : Memory.wf m = true) :
    Memory.wf (writeNibbles m addr l) = true := by
  induction l generalizing m addr with
  | nil => exact h
  | cons n r ih => exact ih _ _ (Memory.write_wf m addr n h)

theorem memWrite_wf (m : Memory) (addr : Addr) (k v : Nat) (h : Memory.wf m = true) :
    Memory.wf (memWrite m addr k v) = true := writeNibbles_wf _ _ _ h

theorem empty_wf : Memory.wf [] = true := rfl

/-- Nibbles that are written away from an address leave it alone. -/
theorem writeNibbles_other (l : List Nibble) (m : Memory) (addr other : Addr)
    (h : ∀ i < l.length, other ≠ addr + BitVec.ofNat 20 i) :
    Memory.read (writeNibbles m addr l) other = Memory.read m other := by
  induction l generalizing m addr with
  | nil => rfl
  | cons n r ih =>
    have h0 : other ≠ addr := by simpa using h 0 (by simp)
    rw [writeNibbles, ih, Memory.read_write_other m addr other n h0]
    intro i hi
    have := h (i + 1) (by simp only [List.length_cons]; omega)
    rwa [BitVec.ofNat_add, BitVec.add_comm (BitVec.ofNat 20 i), ← BitVec.add_assoc] at this

/-- Seven nibbles or fewer that are stored at an address are what a fetch there reads. -/
theorem fetchNibbles_writeNibbles (l : List Nibble) (m : Memory) (addr : Addr) (h : l.length < 2 ^ 20) :
    fetchNibbles (writeNibbles m addr l) addr l.length = l := by
  induction l generalizing m addr with
  | nil => rfl
  | cons n r ih =>
    simp only [List.length_cons] at h
    have hr : Memory.read (writeNibbles (Memory.write m addr n) (addr + 1) r) addr = some n := by
      rw [writeNibbles_other, Memory.read_write_same]
      intro i hi he
      have h1 := congrArg BitVec.toNat he
      have ha := addr.isLt
      simp [BitVec.toNat_add] at h1
      omega
    have hf := ih (Memory.write m addr n) (addr + 1) (by omega)
    simp only [writeNibbles, List.length_cons, fetchNibbles, hr, hf]

/-- What `memRead` answers is the number that the nibbles it read form. -/
theorem memRead_ok (m : Memory) (addr : Addr) (k v : Nat) (h : memRead m addr k = .ok v) :
    ∃ l, readNibbles m addr k = .ok l ∧ v = leValue l := by
  unfold memRead at h
  cases hr : readNibbles m addr k with
  | error e => rw [hr] at h; cases h
  | ok l => rw [hr] at h; cases h; exact ⟨l, rfl, rfl⟩

/-- `readNibbles` answers nibbles exactly where every address it reads is readable, and they are the nibbles there. -/
theorem readNibbles_ok (k : Nat) (m : Memory) (addr : Addr) (l : List Nibble) (h : readNibbles m addr k = .ok l) :
    l.length = k ∧ ∀ i, (hi : i < l.length) → Memory.read m (addr + BitVec.ofNat 20 i) = some l[i] := by
  induction k generalizing addr l with
  | zero => cases h; simp
  | succ k ih =>
    unfold readNibbles at h
    cases hm : Memory.read m addr with
    | none => rw [hm] at h; cases h
    | some n =>
      rw [hm] at h
      cases hr : readNibbles m (addr + 1) k with
      | error e => rw [hr] at h; cases h
      | ok r =>
        rw [hr] at h
        cases h
        obtain ⟨hl, hi⟩ := ih (addr + 1) r hr
        refine ⟨by simp [hl], ?_⟩
        intro i hlt
        cases i with
        | zero => simpa using hm
        | succ i =>
          have := hi i (by simpa using hlt)
          rw [BitVec.ofNat_add, BitVec.add_comm (BitVec.ofNat 20 i), ← BitVec.add_assoc]
          simpa using this

end Sys2Proof.Machine
end

