-- ==== Sys2Proof/Laws/State.lean ====
section
/-!
SUPPORT. One lemma per field per update of the state, each true by rfl, so that no later proof unfolds a record update.
-/

namespace Sys2Proof.Machine

variable (s : State)

/-! `setA` -/

@[simp] theorem State.setA_a (v : Reg64) : (s.setA v).a = v := rfl
@[simp] theorem State.setA_b (v : Reg64) : (s.setA v).b = s.b := rfl
@[simp] theorem State.setA_c (v : Reg64) : (s.setA v).c = s.c := rfl
@[simp] theorem State.setA_d (v : Reg64) : (s.setA v).d = s.d := rfl
@[simp] theorem State.setA_r0 (v : Reg64) : (s.setA v).r0 = s.r0 := rfl
@[simp] theorem State.setA_r1 (v : Reg64) : (s.setA v).r1 = s.r1 := rfl
@[simp] theorem State.setA_r2 (v : Reg64) : (s.setA v).r2 = s.r2 := rfl
@[simp] theorem State.setA_r3 (v : Reg64) : (s.setA v).r3 = s.r3 := rfl
@[simp] theorem State.setA_r4 (v : Reg64) : (s.setA v).r4 = s.r4 := rfl
@[simp] theorem State.setA_d0 (v : Reg64) : (s.setA v).d0 = s.d0 := rfl
@[simp] theorem State.setA_d1 (v : Reg64) : (s.setA v).d1 = s.d1 := rfl
@[simp] theorem State.setA_p (v : Reg64) : (s.setA v).p = s.p := rfl
@[simp] theorem State.setA_pc (v : Reg64) : (s.setA v).pc = s.pc := rfl
@[simp] theorem State.setA_inReg (v : Reg64) : (s.setA v).inReg = s.inReg := rfl
@[simp] theorem State.setA_outReg (v : Reg64) : (s.setA v).outReg = s.outReg := rfl
@[simp] theorem State.setA_carry (v : Reg64) : (s.setA v).carry = s.carry := rfl
@[simp] theorem State.setA_hst (v : Reg64) : (s.setA v).hst = s.hst := rfl
@[simp] theorem State.setA_st (v : Reg64) : (s.setA v).st = s.st := rfl
@[simp] theorem State.setA_rstk (v : Reg64) : (s.setA v).rstk = s.rstk := rfl
@[simp] theorem State.setA_hexMode (v : Reg64) : (s.setA v).hexMode = s.hexMode := rfl
@[simp] theorem State.setA_inte (v : Reg64) : (s.setA v).inte = s.inte := rfl
@[simp] theorem State.setA_mem (v : Reg64) : (s.setA v).mem = s.mem := rfl
@[simp] theorem State.setA_cfg (v : Reg64) : (s.setA v).cfg = s.cfg := rfl
@[simp] theorem State.setA_env (v : Reg64) : (s.setA v).env = s.env := rfl

/-! `setC` -/

@[simp] theorem State.setC_a (v : Reg64) : (s.setC v).a = s.a := rfl
@[simp] theorem State.setC_b (v : Reg64) : (s.setC v).b = s.b := rfl
@[simp] theorem State.setC_c (v : Reg64) : (s.setC v).c = v := rfl
@[simp] theorem State.setC_d (v : Reg64) : (s.setC v).d = s.d := rfl
@[simp] theorem State.setC_r0 (v : Reg64) : (s.setC v).r0 = s.r0 := rfl
@[simp] theorem State.setC_r1 (v : Reg64) : (s.setC v).r1 = s.r1 := rfl
@[simp] theorem State.setC_r2 (v : Reg64) : (s.setC v).r2 = s.r2 := rfl
@[simp] theorem State.setC_r3 (v : Reg64) : (s.setC v).r3 = s.r3 := rfl
@[simp] theorem State.setC_r4 (v : Reg64) : (s.setC v).r4 = s.r4 := rfl
@[simp] theorem State.setC_d0 (v : Reg64) : (s.setC v).d0 = s.d0 := rfl
@[simp] theorem State.setC_d1 (v : Reg64) : (s.setC v).d1 = s.d1 := rfl
@[simp] theorem State.setC_p (v : Reg64) : (s.setC v).p = s.p := rfl
@[simp] theorem State.setC_pc (v : Reg64) : (s.setC v).pc = s.pc := rfl
@[simp] theorem State.setC_inReg (v : Reg64) : (s.setC v).inReg = s.inReg := rfl
@[simp] theorem State.setC_outReg (v : Reg64) : (s.setC v).outReg = s.outReg := rfl
@[simp] theorem State.setC_carry (v : Reg64) : (s.setC v).carry = s.carry := rfl
@[simp] theorem State.setC_hst (v : Reg64) : (s.setC v).hst = s.hst := rfl
@[simp] theorem State.setC_st (v : Reg64) : (s.setC v).st = s.st := rfl
@[simp] theorem State.setC_rstk (v : Reg64) : (s.setC v).rstk = s.rstk := rfl
@[simp] theorem State.setC_hexMode (v : Reg64) : (s.setC v).hexMode = s.hexMode := rfl
@[simp] theorem State.setC_inte (v : Reg64) : (s.setC v).inte = s.inte := rfl
@[simp] theorem State.setC_mem (v : Reg64) : (s.setC v).mem = s.mem := rfl
@[simp] theorem State.setC_cfg (v : Reg64) : (s.setC v).cfg = s.cfg := rfl
@[simp] theorem State.setC_env (v : Reg64) : (s.setC v).env = s.env := rfl

/-! `setP` -/

@[simp] theorem State.setP_a (v : Nibble) : (s.setP v).a = s.a := rfl
@[simp] theorem State.setP_b (v : Nibble) : (s.setP v).b = s.b := rfl
@[simp] theorem State.setP_c (v : Nibble) : (s.setP v).c = s.c := rfl
@[simp] theorem State.setP_d (v : Nibble) : (s.setP v).d = s.d := rfl
@[simp] theorem State.setP_r0 (v : Nibble) : (s.setP v).r0 = s.r0 := rfl
@[simp] theorem State.setP_r1 (v : Nibble) : (s.setP v).r1 = s.r1 := rfl
@[simp] theorem State.setP_r2 (v : Nibble) : (s.setP v).r2 = s.r2 := rfl
@[simp] theorem State.setP_r3 (v : Nibble) : (s.setP v).r3 = s.r3 := rfl
@[simp] theorem State.setP_r4 (v : Nibble) : (s.setP v).r4 = s.r4 := rfl
@[simp] theorem State.setP_d0 (v : Nibble) : (s.setP v).d0 = s.d0 := rfl
@[simp] theorem State.setP_d1 (v : Nibble) : (s.setP v).d1 = s.d1 := rfl
@[simp] theorem State.setP_p (v : Nibble) : (s.setP v).p = v := rfl
@[simp] theorem State.setP_pc (v : Nibble) : (s.setP v).pc = s.pc := rfl
@[simp] theorem State.setP_inReg (v : Nibble) : (s.setP v).inReg = s.inReg := rfl
@[simp] theorem State.setP_outReg (v : Nibble) : (s.setP v).outReg = s.outReg := rfl
@[simp] theorem State.setP_carry (v : Nibble) : (s.setP v).carry = s.carry := rfl
@[simp] theorem State.setP_hst (v : Nibble) : (s.setP v).hst = s.hst := rfl
@[simp] theorem State.setP_st (v : Nibble) : (s.setP v).st = s.st := rfl
@[simp] theorem State.setP_rstk (v : Nibble) : (s.setP v).rstk = s.rstk := rfl
@[simp] theorem State.setP_hexMode (v : Nibble) : (s.setP v).hexMode = s.hexMode := rfl
@[simp] theorem State.setP_inte (v : Nibble) : (s.setP v).inte = s.inte := rfl
@[simp] theorem State.setP_mem (v : Nibble) : (s.setP v).mem = s.mem := rfl
@[simp] theorem State.setP_cfg (v : Nibble) : (s.setP v).cfg = s.cfg := rfl
@[simp] theorem State.setP_env (v : Nibble) : (s.setP v).env = s.env := rfl

/-! `setPc` -/

@[simp] theorem State.setPc_a (v : Addr) : (s.setPc v).a = s.a := rfl
@[simp] theorem State.setPc_b (v : Addr) : (s.setPc v).b = s.b := rfl
@[simp] theorem State.setPc_c (v : Addr) : (s.setPc v).c = s.c := rfl
@[simp] theorem State.setPc_d (v : Addr) : (s.setPc v).d = s.d := rfl
@[simp] theorem State.setPc_r0 (v : Addr) : (s.setPc v).r0 = s.r0 := rfl
@[simp] theorem State.setPc_r1 (v : Addr) : (s.setPc v).r1 = s.r1 := rfl
@[simp] theorem State.setPc_r2 (v : Addr) : (s.setPc v).r2 = s.r2 := rfl
@[simp] theorem State.setPc_r3 (v : Addr) : (s.setPc v).r3 = s.r3 := rfl
@[simp] theorem State.setPc_r4 (v : Addr) : (s.setPc v).r4 = s.r4 := rfl
@[simp] theorem State.setPc_d0 (v : Addr) : (s.setPc v).d0 = s.d0 := rfl
@[simp] theorem State.setPc_d1 (v : Addr) : (s.setPc v).d1 = s.d1 := rfl
@[simp] theorem State.setPc_p (v : Addr) : (s.setPc v).p = s.p := rfl
@[simp] theorem State.setPc_pc (v : Addr) : (s.setPc v).pc = v := rfl
@[simp] theorem State.setPc_inReg (v : Addr) : (s.setPc v).inReg = s.inReg := rfl
@[simp] theorem State.setPc_outReg (v : Addr) : (s.setPc v).outReg = s.outReg := rfl
@[simp] theorem State.setPc_carry (v : Addr) : (s.setPc v).carry = s.carry := rfl
@[simp] theorem State.setPc_hst (v : Addr) : (s.setPc v).hst = s.hst := rfl
@[simp] theorem State.setPc_st (v : Addr) : (s.setPc v).st = s.st := rfl
@[simp] theorem State.setPc_rstk (v : Addr) : (s.setPc v).rstk = s.rstk := rfl
@[simp] theorem State.setPc_hexMode (v : Addr) : (s.setPc v).hexMode = s.hexMode := rfl
@[simp] theorem State.setPc_inte (v : Addr) : (s.setPc v).inte = s.inte := rfl
@[simp] theorem State.setPc_mem (v : Addr) : (s.setPc v).mem = s.mem := rfl
@[simp] theorem State.setPc_cfg (v : Addr) : (s.setPc v).cfg = s.cfg := rfl
@[simp] theorem State.setPc_env (v : Addr) : (s.setPc v).env = s.env := rfl

/-! `setCarry` -/

@[simp] theorem State.setCarry_a (v : Bool) : (s.setCarry v).a = s.a := rfl
@[simp] theorem State.setCarry_b (v : Bool) : (s.setCarry v).b = s.b := rfl
@[simp] theorem State.setCarry_c (v : Bool) : (s.setCarry v).c = s.c := rfl
@[simp] theorem State.setCarry_d (v : Bool) : (s.setCarry v).d = s.d := rfl
@[simp] theorem State.setCarry_r0 (v : Bool) : (s.setCarry v).r0 = s.r0 := rfl
@[simp] theorem State.setCarry_r1 (v : Bool) : (s.setCarry v).r1 = s.r1 := rfl
@[simp] theorem State.setCarry_r2 (v : Bool) : (s.setCarry v).r2 = s.r2 := rfl
@[simp] theorem State.setCarry_r3 (v : Bool) : (s.setCarry v).r3 = s.r3 := rfl
@[simp] theorem State.setCarry_r4 (v : Bool) : (s.setCarry v).r4 = s.r4 := rfl
@[simp] theorem State.setCarry_d0 (v : Bool) : (s.setCarry v).d0 = s.d0 := rfl
@[simp] theorem State.setCarry_d1 (v : Bool) : (s.setCarry v).d1 = s.d1 := rfl
@[simp] theorem State.setCarry_p (v : Bool) : (s.setCarry v).p = s.p := rfl
@[simp] theorem State.setCarry_pc (v : Bool) : (s.setCarry v).pc = s.pc := rfl
@[simp] theorem State.setCarry_inReg (v : Bool) : (s.setCarry v).inReg = s.inReg := rfl
@[simp] theorem State.setCarry_outReg (v : Bool) : (s.setCarry v).outReg = s.outReg := rfl
@[simp] theorem State.setCarry_carry (v : Bool) : (s.setCarry v).carry = v := rfl
@[simp] theorem State.setCarry_hst (v : Bool) : (s.setCarry v).hst = s.hst := rfl
@[simp] theorem State.setCarry_st (v : Bool) : (s.setCarry v).st = s.st := rfl
@[simp] theorem State.setCarry_rstk (v : Bool) : (s.setCarry v).rstk = s.rstk := rfl
@[simp] theorem State.setCarry_hexMode (v : Bool) : (s.setCarry v).hexMode = s.hexMode := rfl
@[simp] theorem State.setCarry_inte (v : Bool) : (s.setCarry v).inte = s.inte := rfl
@[simp] theorem State.setCarry_mem (v : Bool) : (s.setCarry v).mem = s.mem := rfl
@[simp] theorem State.setCarry_cfg (v : Bool) : (s.setCarry v).cfg = s.cfg := rfl
@[simp] theorem State.setCarry_env (v : Bool) : (s.setCarry v).env = s.env := rfl

/-! `setHst` -/

@[simp] theorem State.setHst_a (v : Nibble) : (s.setHst v).a = s.a := rfl
@[simp] theorem State.setHst_b (v : Nibble) : (s.setHst v).b = s.b := rfl
@[simp] theorem State.setHst_c (v : Nibble) : (s.setHst v).c = s.c := rfl
@[simp] theorem State.setHst_d (v : Nibble) : (s.setHst v).d = s.d := rfl
@[simp] theorem State.setHst_r0 (v : Nibble) : (s.setHst v).r0 = s.r0 := rfl
@[simp] theorem State.setHst_r1 (v : Nibble) : (s.setHst v).r1 = s.r1 := rfl
@[simp] theorem State.setHst_r2 (v : Nibble) : (s.setHst v).r2 = s.r2 := rfl
@[simp] theorem State.setHst_r3 (v : Nibble) : (s.setHst v).r3 = s.r3 := rfl
@[simp] theorem State.setHst_r4 (v : Nibble) : (s.setHst v).r4 = s.r4 := rfl
@[simp] theorem State.setHst_d0 (v : Nibble) : (s.setHst v).d0 = s.d0 := rfl
@[simp] theorem State.setHst_d1 (v : Nibble) : (s.setHst v).d1 = s.d1 := rfl
@[simp] theorem State.setHst_p (v : Nibble) : (s.setHst v).p = s.p := rfl
@[simp] theorem State.setHst_pc (v : Nibble) : (s.setHst v).pc = s.pc := rfl
@[simp] theorem State.setHst_inReg (v : Nibble) : (s.setHst v).inReg = s.inReg := rfl
@[simp] theorem State.setHst_outReg (v : Nibble) : (s.setHst v).outReg = s.outReg := rfl
@[simp] theorem State.setHst_carry (v : Nibble) : (s.setHst v).carry = s.carry := rfl
@[simp] theorem State.setHst_hst (v : Nibble) : (s.setHst v).hst = v := rfl
@[simp] theorem State.setHst_st (v : Nibble) : (s.setHst v).st = s.st := rfl
@[simp] theorem State.setHst_rstk (v : Nibble) : (s.setHst v).rstk = s.rstk := rfl
@[simp] theorem State.setHst_hexMode (v : Nibble) : (s.setHst v).hexMode = s.hexMode := rfl
@[simp] theorem State.setHst_inte (v : Nibble) : (s.setHst v).inte = s.inte := rfl
@[simp] theorem State.setHst_mem (v : Nibble) : (s.setHst v).mem = s.mem := rfl
@[simp] theorem State.setHst_cfg (v : Nibble) : (s.setHst v).cfg = s.cfg := rfl
@[simp] theorem State.setHst_env (v : Nibble) : (s.setHst v).env = s.env := rfl

/-! `setSt` -/

@[simp] theorem State.setSt_a (v : BitVec 16) : (s.setSt v).a = s.a := rfl
@[simp] theorem State.setSt_b (v : BitVec 16) : (s.setSt v).b = s.b := rfl
@[simp] theorem State.setSt_c (v : BitVec 16) : (s.setSt v).c = s.c := rfl
@[simp] theorem State.setSt_d (v : BitVec 16) : (s.setSt v).d = s.d := rfl
@[simp] theorem State.setSt_r0 (v : BitVec 16) : (s.setSt v).r0 = s.r0 := rfl
@[simp] theorem State.setSt_r1 (v : BitVec 16) : (s.setSt v).r1 = s.r1 := rfl
@[simp] theorem State.setSt_r2 (v : BitVec 16) : (s.setSt v).r2 = s.r2 := rfl
@[simp] theorem State.setSt_r3 (v : BitVec 16) : (s.setSt v).r3 = s.r3 := rfl
@[simp] theorem State.setSt_r4 (v : BitVec 16) : (s.setSt v).r4 = s.r4 := rfl
@[simp] theorem State.setSt_d0 (v : BitVec 16) : (s.setSt v).d0 = s.d0 := rfl
@[simp] theorem State.setSt_d1 (v : BitVec 16) : (s.setSt v).d1 = s.d1 := rfl
@[simp] theorem State.setSt_p (v : BitVec 16) : (s.setSt v).p = s.p := rfl
@[simp] theorem State.setSt_pc (v : BitVec 16) : (s.setSt v).pc = s.pc := rfl
@[simp] theorem State.setSt_inReg (v : BitVec 16) : (s.setSt v).inReg = s.inReg := rfl
@[simp] theorem State.setSt_outReg (v : BitVec 16) : (s.setSt v).outReg = s.outReg := rfl
@[simp] theorem State.setSt_carry (v : BitVec 16) : (s.setSt v).carry = s.carry := rfl
@[simp] theorem State.setSt_hst (v : BitVec 16) : (s.setSt v).hst = s.hst := rfl
@[simp] theorem State.setSt_st (v : BitVec 16) : (s.setSt v).st = v := rfl
@[simp] theorem State.setSt_rstk (v : BitVec 16) : (s.setSt v).rstk = s.rstk := rfl
@[simp] theorem State.setSt_hexMode (v : BitVec 16) : (s.setSt v).hexMode = s.hexMode := rfl
@[simp] theorem State.setSt_inte (v : BitVec 16) : (s.setSt v).inte = s.inte := rfl
@[simp] theorem State.setSt_mem (v : BitVec 16) : (s.setSt v).mem = s.mem := rfl
@[simp] theorem State.setSt_cfg (v : BitVec 16) : (s.setSt v).cfg = s.cfg := rfl
@[simp] theorem State.setSt_env (v : BitVec 16) : (s.setSt v).env = s.env := rfl

/-! `setRstk` -/

@[simp] theorem State.setRstk_a (v : RStk) : (s.setRstk v).a = s.a := rfl
@[simp] theorem State.setRstk_b (v : RStk) : (s.setRstk v).b = s.b := rfl
@[simp] theorem State.setRstk_c (v : RStk) : (s.setRstk v).c = s.c := rfl
@[simp] theorem State.setRstk_d (v : RStk) : (s.setRstk v).d = s.d := rfl
@[simp] theorem State.setRstk_r0 (v : RStk) : (s.setRstk v).r0 = s.r0 := rfl
@[simp] theorem State.setRstk_r1 (v : RStk) : (s.setRstk v).r1 = s.r1 := rfl
@[simp] theorem State.setRstk_r2 (v : RStk) : (s.setRstk v).r2 = s.r2 := rfl
@[simp] theorem State.setRstk_r3 (v : RStk) : (s.setRstk v).r3 = s.r3 := rfl
@[simp] theorem State.setRstk_r4 (v : RStk) : (s.setRstk v).r4 = s.r4 := rfl
@[simp] theorem State.setRstk_d0 (v : RStk) : (s.setRstk v).d0 = s.d0 := rfl
@[simp] theorem State.setRstk_d1 (v : RStk) : (s.setRstk v).d1 = s.d1 := rfl
@[simp] theorem State.setRstk_p (v : RStk) : (s.setRstk v).p = s.p := rfl
@[simp] theorem State.setRstk_pc (v : RStk) : (s.setRstk v).pc = s.pc := rfl
@[simp] theorem State.setRstk_inReg (v : RStk) : (s.setRstk v).inReg = s.inReg := rfl
@[simp] theorem State.setRstk_outReg (v : RStk) : (s.setRstk v).outReg = s.outReg := rfl
@[simp] theorem State.setRstk_carry (v : RStk) : (s.setRstk v).carry = s.carry := rfl
@[simp] theorem State.setRstk_hst (v : RStk) : (s.setRstk v).hst = s.hst := rfl
@[simp] theorem State.setRstk_st (v : RStk) : (s.setRstk v).st = s.st := rfl
@[simp] theorem State.setRstk_rstk (v : RStk) : (s.setRstk v).rstk = v := rfl
@[simp] theorem State.setRstk_hexMode (v : RStk) : (s.setRstk v).hexMode = s.hexMode := rfl
@[simp] theorem State.setRstk_inte (v : RStk) : (s.setRstk v).inte = s.inte := rfl
@[simp] theorem State.setRstk_mem (v : RStk) : (s.setRstk v).mem = s.mem := rfl
@[simp] theorem State.setRstk_cfg (v : RStk) : (s.setRstk v).cfg = s.cfg := rfl
@[simp] theorem State.setRstk_env (v : RStk) : (s.setRstk v).env = s.env := rfl

/-! `setInte` -/

@[simp] theorem State.setInte_a (v : Bool) : (s.setInte v).a = s.a := rfl
@[simp] theorem State.setInte_b (v : Bool) : (s.setInte v).b = s.b := rfl
@[simp] theorem State.setInte_c (v : Bool) : (s.setInte v).c = s.c := rfl
@[simp] theorem State.setInte_d (v : Bool) : (s.setInte v).d = s.d := rfl
@[simp] theorem State.setInte_r0 (v : Bool) : (s.setInte v).r0 = s.r0 := rfl
@[simp] theorem State.setInte_r1 (v : Bool) : (s.setInte v).r1 = s.r1 := rfl
@[simp] theorem State.setInte_r2 (v : Bool) : (s.setInte v).r2 = s.r2 := rfl
@[simp] theorem State.setInte_r3 (v : Bool) : (s.setInte v).r3 = s.r3 := rfl
@[simp] theorem State.setInte_r4 (v : Bool) : (s.setInte v).r4 = s.r4 := rfl
@[simp] theorem State.setInte_d0 (v : Bool) : (s.setInte v).d0 = s.d0 := rfl
@[simp] theorem State.setInte_d1 (v : Bool) : (s.setInte v).d1 = s.d1 := rfl
@[simp] theorem State.setInte_p (v : Bool) : (s.setInte v).p = s.p := rfl
@[simp] theorem State.setInte_pc (v : Bool) : (s.setInte v).pc = s.pc := rfl
@[simp] theorem State.setInte_inReg (v : Bool) : (s.setInte v).inReg = s.inReg := rfl
@[simp] theorem State.setInte_outReg (v : Bool) : (s.setInte v).outReg = s.outReg := rfl
@[simp] theorem State.setInte_carry (v : Bool) : (s.setInte v).carry = s.carry := rfl
@[simp] theorem State.setInte_hst (v : Bool) : (s.setInte v).hst = s.hst := rfl
@[simp] theorem State.setInte_st (v : Bool) : (s.setInte v).st = s.st := rfl
@[simp] theorem State.setInte_rstk (v : Bool) : (s.setInte v).rstk = s.rstk := rfl
@[simp] theorem State.setInte_hexMode (v : Bool) : (s.setInte v).hexMode = s.hexMode := rfl
@[simp] theorem State.setInte_inte (v : Bool) : (s.setInte v).inte = v := rfl
@[simp] theorem State.setInte_mem (v : Bool) : (s.setInte v).mem = s.mem := rfl
@[simp] theorem State.setInte_cfg (v : Bool) : (s.setInte v).cfg = s.cfg := rfl
@[simp] theorem State.setInte_env (v : Bool) : (s.setInte v).env = s.env := rfl

/-! `setMem` -/

@[simp] theorem State.setMem_a (v : Memory) : (s.setMem v).a = s.a := rfl
@[simp] theorem State.setMem_b (v : Memory) : (s.setMem v).b = s.b := rfl
@[simp] theorem State.setMem_c (v : Memory) : (s.setMem v).c = s.c := rfl
@[simp] theorem State.setMem_d (v : Memory) : (s.setMem v).d = s.d := rfl
@[simp] theorem State.setMem_r0 (v : Memory) : (s.setMem v).r0 = s.r0 := rfl
@[simp] theorem State.setMem_r1 (v : Memory) : (s.setMem v).r1 = s.r1 := rfl
@[simp] theorem State.setMem_r2 (v : Memory) : (s.setMem v).r2 = s.r2 := rfl
@[simp] theorem State.setMem_r3 (v : Memory) : (s.setMem v).r3 = s.r3 := rfl
@[simp] theorem State.setMem_r4 (v : Memory) : (s.setMem v).r4 = s.r4 := rfl
@[simp] theorem State.setMem_d0 (v : Memory) : (s.setMem v).d0 = s.d0 := rfl
@[simp] theorem State.setMem_d1 (v : Memory) : (s.setMem v).d1 = s.d1 := rfl
@[simp] theorem State.setMem_p (v : Memory) : (s.setMem v).p = s.p := rfl
@[simp] theorem State.setMem_pc (v : Memory) : (s.setMem v).pc = s.pc := rfl
@[simp] theorem State.setMem_inReg (v : Memory) : (s.setMem v).inReg = s.inReg := rfl
@[simp] theorem State.setMem_outReg (v : Memory) : (s.setMem v).outReg = s.outReg := rfl
@[simp] theorem State.setMem_carry (v : Memory) : (s.setMem v).carry = s.carry := rfl
@[simp] theorem State.setMem_hst (v : Memory) : (s.setMem v).hst = s.hst := rfl
@[simp] theorem State.setMem_st (v : Memory) : (s.setMem v).st = s.st := rfl
@[simp] theorem State.setMem_rstk (v : Memory) : (s.setMem v).rstk = s.rstk := rfl
@[simp] theorem State.setMem_hexMode (v : Memory) : (s.setMem v).hexMode = s.hexMode := rfl
@[simp] theorem State.setMem_inte (v : Memory) : (s.setMem v).inte = s.inte := rfl
@[simp] theorem State.setMem_mem (v : Memory) : (s.setMem v).mem = v := rfl
@[simp] theorem State.setMem_cfg (v : Memory) : (s.setMem v).cfg = s.cfg := rfl
@[simp] theorem State.setMem_env (v : Memory) : (s.setMem v).env = s.env := rfl

/-! `setEnv` -/

@[simp] theorem State.setEnv_a (v : List EnvEvent) : (s.setEnv v).a = s.a := rfl
@[simp] theorem State.setEnv_b (v : List EnvEvent) : (s.setEnv v).b = s.b := rfl
@[simp] theorem State.setEnv_c (v : List EnvEvent) : (s.setEnv v).c = s.c := rfl
@[simp] theorem State.setEnv_d (v : List EnvEvent) : (s.setEnv v).d = s.d := rfl
@[simp] theorem State.setEnv_r0 (v : List EnvEvent) : (s.setEnv v).r0 = s.r0 := rfl
@[simp] theorem State.setEnv_r1 (v : List EnvEvent) : (s.setEnv v).r1 = s.r1 := rfl
@[simp] theorem State.setEnv_r2 (v : List EnvEvent) : (s.setEnv v).r2 = s.r2 := rfl
@[simp] theorem State.setEnv_r3 (v : List EnvEvent) : (s.setEnv v).r3 = s.r3 := rfl
@[simp] theorem State.setEnv_r4 (v : List EnvEvent) : (s.setEnv v).r4 = s.r4 := rfl
@[simp] theorem State.setEnv_d0 (v : List EnvEvent) : (s.setEnv v).d0 = s.d0 := rfl
@[simp] theorem State.setEnv_d1 (v : List EnvEvent) : (s.setEnv v).d1 = s.d1 := rfl
@[simp] theorem State.setEnv_p (v : List EnvEvent) : (s.setEnv v).p = s.p := rfl
@[simp] theorem State.setEnv_pc (v : List EnvEvent) : (s.setEnv v).pc = s.pc := rfl
@[simp] theorem State.setEnv_inReg (v : List EnvEvent) : (s.setEnv v).inReg = s.inReg := rfl
@[simp] theorem State.setEnv_outReg (v : List EnvEvent) : (s.setEnv v).outReg = s.outReg := rfl
@[simp] theorem State.setEnv_carry (v : List EnvEvent) : (s.setEnv v).carry = s.carry := rfl
@[simp] theorem State.setEnv_hst (v : List EnvEvent) : (s.setEnv v).hst = s.hst := rfl
@[simp] theorem State.setEnv_st (v : List EnvEvent) : (s.setEnv v).st = s.st := rfl
@[simp] theorem State.setEnv_rstk (v : List EnvEvent) : (s.setEnv v).rstk = s.rstk := rfl
@[simp] theorem State.setEnv_hexMode (v : List EnvEvent) : (s.setEnv v).hexMode = s.hexMode := rfl
@[simp] theorem State.setEnv_inte (v : List EnvEvent) : (s.setEnv v).inte = s.inte := rfl
@[simp] theorem State.setEnv_mem (v : List EnvEvent) : (s.setEnv v).mem = s.mem := rfl
@[simp] theorem State.setEnv_cfg (v : List EnvEvent) : (s.setEnv v).cfg = s.cfg := rfl
@[simp] theorem State.setEnv_env (v : List EnvEvent) : (s.setEnv v).env = v := rfl

/-! `advance` -/

@[simp] theorem State.advance_a (k : Nat) : (s.advance k).a = s.a := rfl
@[simp] theorem State.advance_b (k : Nat) : (s.advance k).b = s.b := rfl
@[simp] theorem State.advance_c (k : Nat) : (s.advance k).c = s.c := rfl
@[simp] theorem State.advance_d (k : Nat) : (s.advance k).d = s.d := rfl
@[simp] theorem State.advance_r0 (k : Nat) : (s.advance k).r0 = s.r0 := rfl
@[simp] theorem State.advance_r1 (k : Nat) : (s.advance k).r1 = s.r1 := rfl
@[simp] theorem State.advance_r2 (k : Nat) : (s.advance k).r2 = s.r2 := rfl
@[simp] theorem State.advance_r3 (k : Nat) : (s.advance k).r3 = s.r3 := rfl
@[simp] theorem State.advance_r4 (k : Nat) : (s.advance k).r4 = s.r4 := rfl
@[simp] theorem State.advance_d0 (k : Nat) : (s.advance k).d0 = s.d0 := rfl
@[simp] theorem State.advance_d1 (k : Nat) : (s.advance k).d1 = s.d1 := rfl
@[simp] theorem State.advance_p (k : Nat) : (s.advance k).p = s.p := rfl
@[simp] theorem State.advance_pc (k : Nat) : (s.advance k).pc = addrPlus s.pc k := rfl
@[simp] theorem State.advance_inReg (k : Nat) : (s.advance k).inReg = s.inReg := rfl
@[simp] theorem State.advance_outReg (k : Nat) : (s.advance k).outReg = s.outReg := rfl
@[simp] theorem State.advance_carry (k : Nat) : (s.advance k).carry = s.carry := rfl
@[simp] theorem State.advance_hst (k : Nat) : (s.advance k).hst = s.hst := rfl
@[simp] theorem State.advance_st (k : Nat) : (s.advance k).st = s.st := rfl
@[simp] theorem State.advance_rstk (k : Nat) : (s.advance k).rstk = s.rstk := rfl
@[simp] theorem State.advance_hexMode (k : Nat) : (s.advance k).hexMode = s.hexMode := rfl
@[simp] theorem State.advance_inte (k : Nat) : (s.advance k).inte = s.inte := rfl
@[simp] theorem State.advance_mem (k : Nat) : (s.advance k).mem = s.mem := rfl
@[simp] theorem State.advance_cfg (k : Nat) : (s.advance k).cfg = s.cfg := rfl
@[simp] theorem State.advance_env (k : Nat) : (s.advance k).env = s.env := rfl

/-! `push` -/

@[simp] theorem State.push_a (v : Addr) : (s.push v).a = s.a := rfl
@[simp] theorem State.push_b (v : Addr) : (s.push v).b = s.b := rfl
@[simp] theorem State.push_c (v : Addr) : (s.push v).c = s.c := rfl
@[simp] theorem State.push_d (v : Addr) : (s.push v).d = s.d := rfl
@[simp] theorem State.push_r0 (v : Addr) : (s.push v).r0 = s.r0 := rfl
@[simp] theorem State.push_r1 (v : Addr) : (s.push v).r1 = s.r1 := rfl
@[simp] theorem State.push_r2 (v : Addr) : (s.push v).r2 = s.r2 := rfl
@[simp] theorem State.push_r3 (v : Addr) : (s.push v).r3 = s.r3 := rfl
@[simp] theorem State.push_r4 (v : Addr) : (s.push v).r4 = s.r4 := rfl
@[simp] theorem State.push_d0 (v : Addr) : (s.push v).d0 = s.d0 := rfl
@[simp] theorem State.push_d1 (v : Addr) : (s.push v).d1 = s.d1 := rfl
@[simp] theorem State.push_p (v : Addr) : (s.push v).p = s.p := rfl
@[simp] theorem State.push_pc (v : Addr) : (s.push v).pc = s.pc := rfl
@[simp] theorem State.push_inReg (v : Addr) : (s.push v).inReg = s.inReg := rfl
@[simp] theorem State.push_outReg (v : Addr) : (s.push v).outReg = s.outReg := rfl
@[simp] theorem State.push_carry (v : Addr) : (s.push v).carry = s.carry := rfl
@[simp] theorem State.push_hst (v : Addr) : (s.push v).hst = s.hst := rfl
@[simp] theorem State.push_st (v : Addr) : (s.push v).st = s.st := rfl
@[simp] theorem State.push_rstk (v : Addr) : (s.push v).rstk = pushStk s.rstk v := rfl
@[simp] theorem State.push_hexMode (v : Addr) : (s.push v).hexMode = s.hexMode := rfl
@[simp] theorem State.push_inte (v : Addr) : (s.push v).inte = s.inte := rfl
@[simp] theorem State.push_mem (v : Addr) : (s.push v).mem = s.mem := rfl
@[simp] theorem State.push_cfg (v : Addr) : (s.push v).cfg = s.cfg := rfl
@[simp] theorem State.push_env (v : Addr) : (s.push v).env = s.env := rfl

end Sys2Proof.Machine
end

