-- ==== Sys2Proof/Laws/Ops.lean ====
section
/-!
SUPPORT. For each shared operation one lemma that says once everything it does, for proofs to cite instead of unfolding it.
-/

namespace Sys2Proof.Machine

variable (s : State)

theorem jumpTo_eq (target : Addr) : jumpTo target s = { s with pc := target } := rfl

theorem callTo_eq (k : Nat) (target : Addr) :
    callTo k target s = { s with pc := target, rstk := pushStk s.rstk (addrPlus s.pc k) } := rfl

theorem returnTo_eq : returnTo s = { s with pc := s.rstk.l0, rstk := popStk s.rstk } := rfl

theorem interruptReturn_eq :
    interruptReturn s = { s with pc := s.rstk.l0, rstk := popStk s.rstk, inte := true } := rfl

theorem interruptEntry_eq :
    interruptEntry s = { s with pc := interruptVector, rstk := pushStk s.rstk s.pc, inte := false } := rfl

theorem takeHstEvent_eq (e : EnvEvent) :
    takeHstEvent e s = { s with hst := s.hst ||| (e.hstSet &&& s.cfg.hstAsync) } := rfl

/-- Everything a suffix can do. -/
theorem runSuffix_eq (y : Suffix) :
    runSuffix y s =
      if s.carry then
        match y with
        | .goyes off => { s with pc := relTarget s.pc off }
        | .rtnyes => { s with pc := s.rstk.l0, rstk := popStk s.rstk }
      else { s with pc := addrPlus s.pc 2 } := by
  cases y <;> cases h : s.carry <;> simp [runSuffix, h, jumpTo, returnTo, State.setPc, State.setRstk, State.advance]

/-- Everything a test can do (42_tests_registers.md R170). -/
theorem runTest_eq (q : Nat) (cond : Bool) (y : Suffix) :
    runTest q cond y s =
      if cond then
        match y with
        | .goyes off => { s with carry := true, pc := relTarget (addrPlus s.pc q) off }
        | .rtnyes => { s with carry := true, pc := s.rstk.l0, rstk := popStk s.rstk }
      else { s with carry := false, pc := addrPlus (addrPlus s.pc q) 2 } := by
  cases cond <;> cases y <;> rfl

/-- A meaning behind a level answers a next state only on a version of that level. -/
theorem whenLevel_next (k : Nat) (t : Result) (u : State) :
    whenLevel k s t = .next u ↔ k ≤ s.cfg.version.level ∧ t = .next u := by
  unfold whenLevel
  split <;> simp [*]

/-- A meaning behind a mask answers a next state only where the mask is admitted. -/
theorem whenMask_next (named : Bool) (n : Nibble) (t : Result) (u : State) :
    whenMask named n s t = .next u ↔ (s.cfg.hsMaskGeneral || named) = true ∧ t = .next u := by
  unfold whenMask
  split <;> simp [*]

/-- A jump through memory answers a next state exactly where the five nibbles can be read. -/
theorem jumpIndirect_next (ea : Addr) (u : State) :
    jumpIndirect ea s = .next u ↔ ∃ v, memRead s.mem ea 5 = .ok v ∧ u = { s with pc := BitVec.ofNat 20 v } := by
  unfold jumpIndirect
  cases h : memRead s.mem ea 5 with
  | error e => simp
  | ok v => simp [jumpTo_eq, eq_comm]

/-- Everything one boundary event can do. -/
theorem takeEvent_eq (e : EnvEvent) :
    takeEvent e s =
      if interruptTaken e s then
        { s with hst := s.hst ||| (e.hstSet &&& s.cfg.hstAsync), pc := interruptVector,
                 rstk := pushStk s.rstk s.pc, inte := false }
      else { s with hst := s.hst ||| (e.hstSet &&& s.cfg.hstAsync) } := rfl

theorem atBoundary_nil (h : s.env = []) : atBoundary s = s := by
  simp [atBoundary, h]

theorem atBoundary_cons (e : EnvEvent) (r : List EnvEvent) (h : s.env = e :: r) :
    atBoundary s = takeEvent e (s.setEnv r) := by
  simp [atBoundary, h]

/-- The boundary changes HST, PC, RSTK, INTE and the environment's events, and nothing else. -/
theorem atBoundary_frame :
    atBoundary s = { s with hst := (atBoundary s).hst, pc := (atBoundary s).pc, rstk := (atBoundary s).rstk,
                            inte := (atBoundary s).inte, env := (atBoundary s).env } := by
  cases h : s.env with
  | nil => rw [atBoundary_nil s h]
  | cons e r =>
    rw [atBoundary_cons s e r h, takeEvent_eq]
    split <;> rfl

/-- Everything a step can be: a step that answers a next state ran the decoded instruction after the boundary. -/
theorem step_next (t : State) :
    step s = .next t ↔ ∃ i, fetched (atBoundary s) = .ok i ∧ exec i (atBoundary s) = .next t := by
  unfold step stepAfterBoundary
  cases h : fetched (atBoundary s) <;> simp

end Sys2Proof.Machine
end

