-- ==== Sys2Proof/Laws/PerInstr.lean ====
section
/-!
SUPPORT. Per instruction: the nibbles `encode` writes are as many as the instruction's length says (30_encoding.md R105).
-/

namespace Sys2Proof.Laws.LengthOfEncoding

/-- An instruction's encoding has its length. -/
def Statement (i : Instr) : Prop := (encode i).length = i.length

/-- The nibbles of a test: its own, then the two of its suffix. -/
theorem suffixed (l : List Nibble) (y : Suffix) : (l ++ encodeSuffix y).length = l.length + 2 := by
  simp

theorem rtnsxm : Statement .rtnsxm := rfl
theorem rtn : Statement .rtn := rfl
theorem rtnsc : Statement .rtnsc := rfl
theorem rtncc : Statement .rtncc := rfl
theorem clrst : Statement .clrst := rfl
theorem cFromSt : Statement .cFromSt := rfl
theorem stFromC : Statement .stFromC := rfl
theorem cstex : Statement .cstex := rfl
theorem pInc : Statement .pInc := rfl
theorem pDec : Statement .pDec := rfl
theorem rti : Statement .rti := rfl
theorem pSet (n : Nibble) : Statement (.pSet n) := rfl
theorem goc (off : BitVec 8) : Statement (.goc off) := rfl
theorem rtnc : Statement .rtnc := rfl
theorem gonc (off : BitVec 8) : Statement (.gonc off) := rfl
theorem rtnnc : Statement .rtnnc := rfl
theorem goto (off : BitVec 12) : Statement (.goto off) := rfl
theorem gosub (off : BitVec 12) : Statement (.gosub off) := rfl
theorem cAddP1 : Statement .cAddP1 := rfl
theorem cFromP (n : Nibble) : Statement (.cFromP n) := rfl
theorem pFromC (n : Nibble) : Statement (.pFromC n) := rfl
theorem cpex (n : Nibble) : Statement (.cpex n) := rfl
theorem abit0 (n : Nibble) : Statement (.abit0 n) := rfl
theorem abit1 (n : Nibble) : Statement (.abit1 n) := rfl
theorem tstAbit0 (n : Nibble) (y : Suffix) : Statement (.tstAbit0 n y) := suffixed _ y
theorem tstAbit1 (n : Nibble) (y : Suffix) : Statement (.tstAbit1 n y) := suffixed _ y
theorem cbit0 (n : Nibble) : Statement (.cbit0 n) := rfl
theorem cbit1 (n : Nibble) : Statement (.cbit1 n) := rfl
theorem tstCbit0 (n : Nibble) (y : Suffix) : Statement (.tstCbit0 n y) := suffixed _ y
theorem tstCbit1 (n : Nibble) (y : Suffix) : Statement (.tstCbit1 n y) := suffixed _ y
theorem pcIndA : Statement .pcIndA := rfl
theorem pcIndC : Statement .pcIndC := rfl
theorem pcFromA : Statement .pcFromA := rfl
theorem pcFromC : Statement .pcFromC := rfl
theorem apcex : Statement .apcex := rfl
theorem cpcex : Statement .cpcex := rfl
theorem hs0 (n : Nibble) : Statement (.hs0 n) := rfl
theorem xm0 : Statement .xm0 := rfl
theorem sb0 : Statement .sb0 := rfl
theorem sr0 : Statement .sr0 := rfl
theorem mp0 : Statement .mp0 := rfl
theorem clrhs : Statement .clrhs := rfl
theorem tstHs0 (n : Nibble) (y : Suffix) : Statement (.tstHs0 n y) := suffixed _ y
theorem tstXm0 (y : Suffix) : Statement (.tstXm0 y) := suffixed _ y
theorem tstSb0 (y : Suffix) : Statement (.tstSb0 y) := suffixed _ y
theorem tstSr0 (y : Suffix) : Statement (.tstSr0 y) := suffixed _ y
theorem tstMp0 (y : Suffix) : Statement (.tstMp0 y) := suffixed _ y
theorem st0 (n : Nibble) : Statement (.st0 n) := rfl
theorem st1 (n : Nibble) : Statement (.st1 n) := rfl
theorem tstSt0 (n : Nibble) (y : Suffix) : Statement (.tstSt0 n y) := suffixed _ y
theorem tstSt1 (n : Nibble) (y : Suffix) : Statement (.tstSt1 n y) := suffixed _ y
theorem tstPNe (n : Nibble) (y : Suffix) : Statement (.tstPNe n y) := suffixed _ y
theorem tstPEq (n : Nibble) (y : Suffix) : Statement (.tstPEq n y) := suffixed _ y
theorem eqABonA (y : Suffix) : Statement (.eqABonA y) := suffixed _ y
theorem eqABonF (f : Field) (y : Suffix) : Statement (.eqABonF f y) := suffixed _ y
theorem eqBConA (y : Suffix) : Statement (.eqBConA y) := suffixed _ y
theorem eqBConF (f : Field) (y : Suffix) : Statement (.eqBConF f y) := suffixed _ y
theorem eqAConA (y : Suffix) : Statement (.eqAConA y) := suffixed _ y
theorem eqAConF (f : Field) (y : Suffix) : Statement (.eqAConF f y) := suffixed _ y
theorem eqCDonA (y : Suffix) : Statement (.eqCDonA y) := suffixed _ y
theorem eqCDonF (f : Field) (y : Suffix) : Statement (.eqCDonF f y) := suffixed _ y
theorem neABonA (y : Suffix) : Statement (.neABonA y) := suffixed _ y
theorem neABonF (f : Field) (y : Suffix) : Statement (.neABonF f y) := suffixed _ y
theorem neBConA (y : Suffix) : Statement (.neBConA y) := suffixed _ y
theorem neBConF (f : Field) (y : Suffix) : Statement (.neBConF f y) := suffixed _ y
theorem neAConA (y : Suffix) : Statement (.neAConA y) := suffixed _ y
theorem neAConF (f : Field) (y : Suffix) : Statement (.neAConF f y) := suffixed _ y
theorem neCDonA (y : Suffix) : Statement (.neCDonA y) := suffixed _ y
theorem neCDonF (f : Field) (y : Suffix) : Statement (.neCDonF f y) := suffixed _ y
theorem eqA0onA (y : Suffix) : Statement (.eqA0onA y) := suffixed _ y
theorem eqA0onF (f : Field) (y : Suffix) : Statement (.eqA0onF f y) := suffixed _ y
theorem eqB0onA (y : Suffix) : Statement (.eqB0onA y) := suffixed _ y
theorem eqB0onF (f : Field) (y : Suffix) : Statement (.eqB0onF f y) := suffixed _ y
theorem eqC0onA (y : Suffix) : Statement (.eqC0onA y) := suffixed _ y
theorem eqC0onF (f : Field) (y : Suffix) : Statement (.eqC0onF f y) := suffixed _ y
theorem eqD0onA (y : Suffix) : Statement (.eqD0onA y) := suffixed _ y
theorem eqD0onF (f : Field) (y : Suffix) : Statement (.eqD0onF f y) := suffixed _ y
theorem neA0onA (y : Suffix) : Statement (.neA0onA y) := suffixed _ y
theorem neA0onF (f : Field) (y : Suffix) : Statement (.neA0onF f y) := suffixed _ y
theorem neB0onA (y : Suffix) : Statement (.neB0onA y) := suffixed _ y
theorem neB0onF (f : Field) (y : Suffix) : Statement (.neB0onF f y) := suffixed _ y
theorem neC0onA (y : Suffix) : Statement (.neC0onA y) := suffixed _ y
theorem neC0onF (f : Field) (y : Suffix) : Statement (.neC0onF f y) := suffixed _ y
theorem neD0onA (y : Suffix) : Statement (.neD0onA y) := suffixed _ y
theorem neD0onF (f : Field) (y : Suffix) : Statement (.neD0onF f y) := suffixed _ y
theorem gtABonA (y : Suffix) : Statement (.gtABonA y) := suffixed _ y
theorem gtABonF (f : Field) (y : Suffix) : Statement (.gtABonF f y) := suffixed _ y
theorem gtBConA (y : Suffix) : Statement (.gtBConA y) := suffixed _ y
theorem gtBConF (f : Field) (y : Suffix) : Statement (.gtBConF f y) := suffixed _ y
theorem gtCAonA (y : Suffix) : Statement (.gtCAonA y) := suffixed _ y
theorem gtCAonF (f : Field) (y : Suffix) : Statement (.gtCAonF f y) := suffixed _ y
theorem gtDConA (y : Suffix) : Statement (.gtDConA y) := suffixed _ y
theorem gtDConF (f : Field) (y : Suffix) : Statement (.gtDConF f y) := suffixed _ y
theorem ltABonA (y : Suffix) : Statement (.ltABonA y) := suffixed _ y
theorem ltABonF (f : Field) (y : Suffix) : Statement (.ltABonF f y) := suffixed _ y
theorem ltBConA (y : Suffix) : Statement (.ltBConA y) := suffixed _ y
theorem ltBConF (f : Field) (y : Suffix) : Statement (.ltBConF f y) := suffixed _ y
theorem ltCAonA (y : Suffix) : Statement (.ltCAonA y) := suffixed _ y
theorem ltCAonF (f : Field) (y : Suffix) : Statement (.ltCAonF f y) := suffixed _ y
theorem ltDConA (y : Suffix) : Statement (.ltDConA y) := suffixed _ y
theorem ltDConF (f : Field) (y : Suffix) : Statement (.ltDConF f y) := suffixed _ y
theorem geABonA (y : Suffix) : Statement (.geABonA y) := suffixed _ y
theorem geABonF (f : Field) (y : Suffix) : Statement (.geABonF f y) := suffixed _ y
theorem geBConA (y : Suffix) : Statement (.geBConA y) := suffixed _ y
theorem geBConF (f : Field) (y : Suffix) : Statement (.geBConF f y) := suffixed _ y
theorem geCAonA (y : Suffix) : Statement (.geCAonA y) := suffixed _ y
theorem geCAonF (f : Field) (y : Suffix) : Statement (.geCAonF f y) := suffixed _ y
theorem geDConA (y : Suffix) : Statement (.geDConA y) := suffixed _ y
theorem geDConF (f : Field) (y : Suffix) : Statement (.geDConF f y) := suffixed _ y
theorem leABonA (y : Suffix) : Statement (.leABonA y) := suffixed _ y
theorem leABonF (f : Field) (y : Suffix) : Statement (.leABonF f y) := suffixed _ y
theorem leBConA (y : Suffix) : Statement (.leBConA y) := suffixed _ y
theorem leBConF (f : Field) (y : Suffix) : Statement (.leBConF f y) := suffixed _ y
theorem leCAonA (y : Suffix) : Statement (.leCAonA y) := suffixed _ y
theorem leCAonF (f : Field) (y : Suffix) : Statement (.leCAonF f y) := suffixed _ y
theorem leDConA (y : Suffix) : Statement (.leDConA y) := suffixed _ y
theorem leDConF (f : Field) (y : Suffix) : Statement (.leDConF f y) := suffixed _ y
theorem golong (off : BitVec 16) : Statement (.golong off) := rfl
theorem govlng (addr : Addr) : Statement (.govlng addr) := rfl
theorem gosubl (off : BitVec 16) : Statement (.gosubl off) := rfl
theorem gosbvl (addr : Addr) : Statement (.gosbvl addr) := rfl
theorem goyes (off : BitVec 8) : Statement (.goyes off) := rfl
theorem rtnyes : Statement .rtnyes := rfl

end Sys2Proof.Laws.LengthOfEncoding
end

