-- ==== Sys2Proof/Laws/Runs.lean ====
section
/-!
SUPPORT. What a run can be (70_reset_and_hazards.md R312): one lemma per way it ends, and its first step in the terms of `step`.
-/

namespace Sys2Proof.Machine

theorem atExit_iff (exits : List Addr) (s : State) : atExit exits s = true ↔ s.pc ∈ exits := by
  simp [atExit]

/-- A run that begins at EXIT ends there, with no event taken. -/
theorem runUntil_of_atExit (exits : List Addr) (k : Nat) (s : State) (h : s.pc ∈ exits) : runUntil exits k s = .exit s := by
  have h' := (atExit_iff exits s).2 h
  cases k <;> simp [runUntil, h']

/-- A boundary that takes the PC into EXIT ends the run before the instruction there is run. -/
theorem runUntil_of_boundary_atExit (exits : List Addr) (k : Nat) (s : State) (h : s.pc ∉ exits)
    (hb : (atBoundary s).pc ∈ exits) : runUntil exits (k + 1) s = .exit (atBoundary s) := by
  have h' : atExit exits s = false := by simpa [atExit] using h
  have hb' := (atExit_iff exits (atBoundary s)).2 hb
  simp [runUntil, h', hb']

/-- Elsewhere a run goes on by one step of the machine. -/
theorem runUntil_succ (exits : List Addr) (k : Nat) (s : State) (h : s.pc ∉ exits) (hb : (atBoundary s).pc ∉ exits) :
    runUntil exits (k + 1) s =
      match step s with
      | .next t => runUntil exits k t
      | .refused r => .refused r
      | .fault r => .fault r := by
  have h' : atExit exits s = false := by simpa [atExit] using h
  have hb' : atExit exits (atBoundary s) = false := by simpa [atExit] using hb
  cases hs : step s <;> simp [runUntil, h', hb', hs]

/-- A run that ended by EXIT stands at an address of EXIT. -/
theorem runUntil_exit_pc (exits : List Addr) (k : Nat) (s t : State) (h : runUntil exits k s = .exit t) : t.pc ∈ exits := by
  induction k generalizing s with
  | zero =>
    unfold runUntil at h
    split at h
    · cases h; exact (atExit_iff _ _).1 ‹_›
    · cases h
  | succ k ih =>
    unfold runUntil at h
    split at h
    · cases h; exact (atExit_iff _ _).1 ‹_›
    · split at h
      · cases h; exact (atExit_iff _ _).1 ‹_›
      · split at h
        · exact ih _ h
        · cases h
        · cases h

/-- A run that used its budget up is not at EXIT. -/
theorem runUntil_budget_pc (exits : List Addr) (k : Nat) (s t : State) (h : runUntil exits k s = .budget t) : t.pc ∉ exits := by
  induction k generalizing s with
  | zero =>
    unfold runUntil at h
    split at h
    · cases h
    · cases h
      intro hc
      exact absurd ((atExit_iff _ _).2 hc) ‹_›
  | succ k ih =>
    unfold runUntil at h
    split at h
    · cases h
    · split at h
      · cases h
      · split at h
        · exact ih _ h
        · cases h
        · cases h

end Sys2Proof.Machine
end

