-- ==== Sys2Proof/Tests/Slice0.lean ====
section
/-!
SUPPORT. The model's own tests, each on fixed values: ill-formed terms, words written out from the spec's encodings
(30_encoding.md R97; spec/opcode_table.json, column "encoding"), single steps of the vectors of 95_test_vectors.md, and for every
statement that has hypotheses one concrete input that meets them (`test_witness_…`).
-/

namespace Sys2Proof.Tests

open Sys2Proof.Machine Sys2Proof.Claims

/-- These nibbles decode to this instruction. -/
def decodesAs (ns : List Nibble) (i : Instr) : Bool := decide (decode true ns = .ok i)

/-- The state with nibbles stored at its PC. -/
def holding (ns : List Nibble) (s : State) : State := s.setMem (writeNibbles s.mem s.pc ns)

/-- The reset state with the PC at 01000h. -/
def start : State := { State.reset with pc := 0x01000 }

/-- The state with nibbles stored at an address. -/
def withData (addr : Addr) (ns : List Nibble) (s : State) : State := s.setMem (writeNibbles s.mem addr ns)

/-- A return stack of two levels over zeros. -/
def stack (top below : Addr) : RStk := ⟨top, below, 0, 0, 0, 0, 0, 0⟩

/-- The nibbles, run from `s`, give exactly the state `e`; memory is as it was. -/
def runsTo (ns : List Nibble) (s : State) (e : State → State) : Bool :=
  match step (holding ns s) with
  | .next t => decide (t = e (holding ns s))
  | .refused _ => false
  | .fault r => nomatch r

/-- The nibbles, run from `s`, are refused for this reason. -/
def refusedFor (ns : List Nibble) (s : State) (r : Refusal) : Bool :=
  match step (holding ns s) with
  | .next _ => false
  | .refused q => decide (q = r)
  | .fault q => nomatch q

/-! ## WellFormed refuses each ill-formed shape -/

theorem test_wf_goc_offset_zero : (Instr.goc 0).wf = false := by decide
theorem test_wf_gonc_offset_zero : (Instr.gonc 0).wf = false := by decide
theorem test_wf_goyes_offset_zero : (Instr.tstPEq 3 (.goyes 0)).wf = false := by decide
theorem test_wf_goyes_offset_zero_on_level_two_test : (Instr.tstCbit1 3 (.goyes 0)).wf = false := by decide
theorem test_wf_field_a_on_other_field_row : (Instr.eqABonF .a .rtnyes).wf = false := by decide
theorem test_wf_field_a_on_order_row : (Instr.leDConF .a .rtnyes).wf = false := by decide
theorem test_wf_general_clear_of_named_mask : (Instr.hs0 15).wf = false := by decide
theorem test_wf_general_test_of_named_mask : (Instr.tstHs0 8 .rtnyes).wf = false := by decide
theorem test_wf_general_test_of_all_bits : (Instr.tstHs0 15 .rtnyes).wf = true := by decide
theorem test_wf_suffix_alone : ((Instr.goyes 4).wf || Instr.rtnyes.wf) = false := by decide

/-! ## Decoding: words written out from the encoding column of the opcode table -/

theorem test_decode_calls_and_returns :
    [decodesAs [0#4, 0#4] .rtnsxm,
      decodesAs [0#4, 1#4] .rtn,
      decodesAs [0#4, 2#4] .rtnsc,
      decodesAs [0#4, 3#4] .rtncc,
      decodesAs [0#4, 15#4] .rti,
      decodesAs [4#4, 0#4, 0#4] .rtnc,
      decodesAs [5#4, 0#4, 0#4] .rtnnc,
      decodesAs [7#4, 2#4, 5#4, 15#4] (.gosub 0xF52#12),
      decodesAs [8#4, 14#4, 2#4, 5#4, 15#4, 9#4] (.gosubl 0x9F52#16),
      decodesAs [8#4, 15#4, 10#4, 11#4, 12#4, 4#4, 0#4] (.gosbvl 0x04CBA#20)].all id = true := by decide
theorem test_decode_status :
    [decodesAs [0#4, 8#4] .clrst,
      decodesAs [0#4, 9#4] .cFromSt,
      decodesAs [0#4, 10#4] .stFromC,
      decodesAs [0#4, 11#4] .cstex,
      decodesAs [8#4, 2#4, 3#4] (.hs0 3#4),
      decodesAs [8#4, 2#4, 1#4] .xm0,
      decodesAs [8#4, 2#4, 2#4] .sb0,
      decodesAs [8#4, 2#4, 4#4] .sr0,
      decodesAs [8#4, 2#4, 8#4] .mp0,
      decodesAs [8#4, 2#4, 15#4] .clrhs,
      decodesAs [8#4, 4#4, 2#4] (.st0 2#4),
      decodesAs [8#4, 5#4, 9#4] (.st1 9#4)].all id = true := by decide
theorem test_decode_pointer :
    [decodesAs [0#4, 12#4] .pInc,
      decodesAs [0#4, 13#4] .pDec,
      decodesAs [2#4, 6#4] (.pSet 6#4),
      decodesAs [8#4, 0#4, 9#4] .cAddP1,
      decodesAs [8#4, 0#4, 12#4, 14#4] (.cFromP 14#4),
      decodesAs [8#4, 0#4, 13#4, 5#4] (.pFromC 5#4),
      decodesAs [8#4, 0#4, 15#4, 12#4] (.cpex 12#4)].all id = true := by decide
theorem test_decode_jumps :
    [decodesAs [4#4, 3#4, 14#4] (.goc 0xE3#8),
      decodesAs [5#4, 3#4, 14#4] (.gonc 0xE3#8),
      decodesAs [6#4, 2#4, 5#4, 15#4] (.goto 0xF52#12),
      decodesAs [8#4, 0#4, 8#4, 12#4] .pcIndA,
      decodesAs [8#4, 0#4, 8#4, 14#4] .pcIndC,
      decodesAs [8#4, 1#4, 11#4, 2#4] .pcFromA,
      decodesAs [8#4, 1#4, 11#4, 3#4] .pcFromC,
      decodesAs [8#4, 1#4, 11#4, 6#4] .apcex,
      decodesAs [8#4, 1#4, 11#4, 7#4] .cpcex,
      decodesAs [8#4, 12#4, 2#4, 5#4, 15#4, 9#4] (.golong 0x9F52#16),
      decodesAs [8#4, 13#4, 10#4, 11#4, 12#4, 4#4, 0#4] (.govlng 0x04CBA#20)].all id = true := by decide
theorem test_decode_bits :
    [decodesAs [8#4, 0#4, 8#4, 4#4, 3#4] (.abit0 3#4),
      decodesAs [8#4, 0#4, 8#4, 5#4, 10#4] (.abit1 10#4),
      decodesAs [8#4, 0#4, 8#4, 8#4, 15#4] (.cbit0 15#4),
      decodesAs [8#4, 0#4, 8#4, 9#4, 6#4] (.cbit1 6#4)].all id = true := by decide
theorem test_decode_tests_of_P_ST_HST_and_register_bits :
    [decodesAs [8#4, 0#4, 8#4, 6#4, 1#4, 0#4, 0#4] (.tstAbit0 1#4 .rtnyes),
      decodesAs [8#4, 0#4, 8#4, 7#4, 8#4, 12#4, 7#4] (.tstAbit1 8#4 (.goyes 0x7C#8)),
      decodesAs [8#4, 0#4, 8#4, 10#4, 13#4, 12#4, 7#4] (.tstCbit0 13#4 (.goyes 0x7C#8)),
      decodesAs [8#4, 0#4, 8#4, 11#4, 4#4, 0#4, 0#4] (.tstCbit1 4#4 .rtnyes),
      decodesAs [8#4, 3#4, 3#4, 12#4, 7#4] (.tstHs0 3#4 (.goyes 0x7C#8)),
      decodesAs [8#4, 3#4, 1#4, 12#4, 7#4] (.tstXm0 (.goyes 0x7C#8)),
      decodesAs [8#4, 3#4, 2#4, 0#4, 0#4] (.tstSb0 .rtnyes),
      decodesAs [8#4, 3#4, 4#4, 12#4, 7#4] (.tstSr0 (.goyes 0x7C#8)),
      decodesAs [8#4, 3#4, 8#4, 12#4, 7#4] (.tstMp0 (.goyes 0x7C#8)),
      decodesAs [8#4, 6#4, 0#4, 0#4, 0#4] (.tstSt0 0#4 .rtnyes),
      decodesAs [8#4, 7#4, 7#4, 12#4, 7#4] (.tstSt1 7#4 (.goyes 0x7C#8)),
      decodesAs [8#4, 8#4, 14#4, 12#4, 7#4] (.tstPNe 14#4 (.goyes 0x7C#8)),
      decodesAs [8#4, 9#4, 5#4, 12#4, 7#4] (.tstPEq 5#4 (.goyes 0x7C#8))].all id = true := by decide
theorem test_decode_equality_and_zero_tests_on_field_A :
    [decodesAs [8#4, 10#4, 0#4, 12#4, 7#4] (.eqABonA (.goyes 0x7C#8)),
      decodesAs [8#4, 10#4, 1#4, 12#4, 7#4] (.eqBConA (.goyes 0x7C#8)),
      decodesAs [8#4, 10#4, 2#4, 12#4, 7#4] (.eqAConA (.goyes 0x7C#8)),
      decodesAs [8#4, 10#4, 3#4, 0#4, 0#4] (.eqCDonA .rtnyes),
      decodesAs [8#4, 10#4, 4#4, 12#4, 7#4] (.neABonA (.goyes 0x7C#8)),
      decodesAs [8#4, 10#4, 5#4, 12#4, 7#4] (.neBConA (.goyes 0x7C#8)),
      decodesAs [8#4, 10#4, 6#4, 12#4, 7#4] (.neAConA (.goyes 0x7C#8)),
      decodesAs [8#4, 10#4, 7#4, 12#4, 7#4] (.neCDonA (.goyes 0x7C#8)),
      decodesAs [8#4, 10#4, 8#4, 0#4, 0#4] (.eqA0onA .rtnyes),
      decodesAs [8#4, 10#4, 9#4, 12#4, 7#4] (.eqB0onA (.goyes 0x7C#8)),
      decodesAs [8#4, 10#4, 10#4, 12#4, 7#4] (.eqC0onA (.goyes 0x7C#8)),
      decodesAs [8#4, 10#4, 11#4, 12#4, 7#4] (.eqD0onA (.goyes 0x7C#8)),
      decodesAs [8#4, 10#4, 12#4, 12#4, 7#4] (.neA0onA (.goyes 0x7C#8)),
      decodesAs [8#4, 10#4, 13#4, 0#4, 0#4] (.neB0onA .rtnyes),
      decodesAs [8#4, 10#4, 14#4, 12#4, 7#4] (.neC0onA (.goyes 0x7C#8)),
      decodesAs [8#4, 10#4, 15#4, 12#4, 7#4] (.neD0onA (.goyes 0x7C#8))].all id = true := by decide
theorem test_decode_equality_and_zero_tests_on_other_fields :
    [decodesAs [9#4, 7#4, 0#4, 0#4, 0#4] (.eqABonF .w .rtnyes),
      decodesAs [9#4, 1#4, 1#4, 12#4, 7#4] (.eqBConF .wp (.goyes 0x7C#8)),
      decodesAs [9#4, 3#4, 2#4, 12#4, 7#4] (.eqAConF .x (.goyes 0x7C#8)),
      decodesAs [9#4, 5#4, 3#4, 12#4, 7#4] (.eqCDonF .m (.goyes 0x7C#8)),
      decodesAs [9#4, 7#4, 4#4, 12#4, 7#4] (.neABonF .w (.goyes 0x7C#8)),
      decodesAs [9#4, 1#4, 5#4, 0#4, 0#4] (.neBConF .wp .rtnyes),
      decodesAs [9#4, 3#4, 6#4, 12#4, 7#4] (.neAConF .x (.goyes 0x7C#8)),
      decodesAs [9#4, 5#4, 7#4, 12#4, 7#4] (.neCDonF .m (.goyes 0x7C#8)),
      decodesAs [9#4, 7#4, 8#4, 12#4, 7#4] (.eqA0onF .w (.goyes 0x7C#8)),
      decodesAs [9#4, 1#4, 9#4, 12#4, 7#4] (.eqB0onF .wp (.goyes 0x7C#8)),
      decodesAs [9#4, 3#4, 10#4, 0#4, 0#4] (.eqC0onF .x .rtnyes),
      decodesAs [9#4, 5#4, 11#4, 12#4, 7#4] (.eqD0onF .m (.goyes 0x7C#8)),
      decodesAs [9#4, 7#4, 12#4, 12#4, 7#4] (.neA0onF .w (.goyes 0x7C#8)),
      decodesAs [9#4, 1#4, 13#4, 12#4, 7#4] (.neB0onF .wp (.goyes 0x7C#8)),
      decodesAs [9#4, 3#4, 14#4, 12#4, 7#4] (.neC0onF .x (.goyes 0x7C#8)),
      decodesAs [9#4, 5#4, 15#4, 0#4, 0#4] (.neD0onF .m .rtnyes)].all id = true := by decide
theorem test_decode_order_tests_on_field_A :
    [decodesAs [8#4, 11#4, 0#4, 12#4, 7#4] (.gtABonA (.goyes 0x7C#8)),
      decodesAs [8#4, 11#4, 1#4, 12#4, 7#4] (.gtBConA (.goyes 0x7C#8)),
      decodesAs [8#4, 11#4, 2#4, 0#4, 0#4] (.gtCAonA .rtnyes),
      decodesAs [8#4, 11#4, 3#4, 12#4, 7#4] (.gtDConA (.goyes 0x7C#8)),
      decodesAs [8#4, 11#4, 4#4, 12#4, 7#4] (.ltABonA (.goyes 0x7C#8)),
      decodesAs [8#4, 11#4, 5#4, 12#4, 7#4] (.ltBConA (.goyes 0x7C#8)),
      decodesAs [8#4, 11#4, 6#4, 12#4, 7#4] (.ltCAonA (.goyes 0x7C#8)),
      decodesAs [8#4, 11#4, 7#4, 0#4, 0#4] (.ltDConA .rtnyes),
      decodesAs [8#4, 11#4, 8#4, 12#4, 7#4] (.geABonA (.goyes 0x7C#8)),
      decodesAs [8#4, 11#4, 9#4, 12#4, 7#4] (.geBConA (.goyes 0x7C#8)),
      decodesAs [8#4, 11#4, 10#4, 12#4, 7#4] (.geCAonA (.goyes 0x7C#8)),
      decodesAs [8#4, 11#4, 11#4, 12#4, 7#4] (.geDConA (.goyes 0x7C#8)),
      decodesAs [8#4, 11#4, 12#4, 0#4, 0#4] (.leABonA .rtnyes),
      decodesAs [8#4, 11#4, 13#4, 12#4, 7#4] (.leBConA (.goyes 0x7C#8)),
      decodesAs [8#4, 11#4, 14#4, 12#4, 7#4] (.leCAonA (.goyes 0x7C#8)),
      decodesAs [8#4, 11#4, 15#4, 12#4, 7#4] (.leDConA (.goyes 0x7C#8))].all id = true := by decide
theorem test_decode_order_tests_on_other_fields :
    [decodesAs [9#4, 15#4, 0#4, 12#4, 7#4] (.gtABonF .w (.goyes 0x7C#8)),
      decodesAs [9#4, 9#4, 1#4, 12#4, 7#4] (.gtBConF .wp (.goyes 0x7C#8)),
      decodesAs [9#4, 11#4, 2#4, 12#4, 7#4] (.gtCAonF .x (.goyes 0x7C#8)),
      decodesAs [9#4, 13#4, 3#4, 12#4, 7#4] (.gtDConF .m (.goyes 0x7C#8)),
      decodesAs [9#4, 15#4, 4#4, 0#4, 0#4] (.ltABonF .w .rtnyes),
      decodesAs [9#4, 9#4, 5#4, 12#4, 7#4] (.ltBConF .wp (.goyes 0x7C#8)),
      decodesAs [9#4, 11#4, 6#4, 12#4, 7#4] (.ltCAonF .x (.goyes 0x7C#8)),
      decodesAs [9#4, 13#4, 7#4, 12#4, 7#4] (.ltDConF .m (.goyes 0x7C#8)),
      decodesAs [9#4, 15#4, 8#4, 12#4, 7#4] (.geABonF .w (.goyes 0x7C#8)),
      decodesAs [9#4, 9#4, 9#4, 0#4, 0#4] (.geBConF .wp .rtnyes),
      decodesAs [9#4, 11#4, 10#4, 12#4, 7#4] (.geCAonF .x (.goyes 0x7C#8)),
      decodesAs [9#4, 13#4, 11#4, 12#4, 7#4] (.geDConF .m (.goyes 0x7C#8)),
      decodesAs [9#4, 15#4, 12#4, 12#4, 7#4] (.leABonF .w (.goyes 0x7C#8)),
      decodesAs [9#4, 9#4, 13#4, 12#4, 7#4] (.leBConF .wp (.goyes 0x7C#8)),
      decodesAs [9#4, 11#4, 14#4, 0#4, 0#4] (.leCAonF .x .rtnyes),
      decodesAs [9#4, 13#4, 15#4, 12#4, 7#4] (.leDConF .m (.goyes 0x7C#8))].all id = true := by decide
theorem test_decode_suffixes : (suffixOf 12#4 7#4, suffixOf 0#4 0#4, suffixOf 0#4 1#4) = (.goyes 0x7C#8, .rtnyes, .goyes 0x10#8) := by
  decide
theorem test_decode_zero_offset_is_return : [decodesAs [4#4, 0#4, 0#4] .rtnc, decodesAs [5#4, 0#4, 0#4] .rtnnc].all id = true := by
  decide
theorem test_decode_unlisted : decode true [8#4, 0#4, 8#4, 13#4, 1#4] = .unlisted [8#4, 0#4, 8#4, 13#4] := by decide
theorem test_decode_short : decode true [8#4, 13#4, 5#4, 4#4, 3#4, 2#4] = .short := by decide
theorem test_decode_strict_mask : decode false [8#4, 2#4, 3#4] = .unlisted [8#4, 2#4, 3#4] := by decide
theorem test_table_word_of_goto : decodeTableWord 16 0x00F6 = some (.goto 0x00F) := by decide
theorem test_table_word_of_three_nibbles : decodeTableWord 16 0x0EF5 = some (.gonc 0xEF) := by decide

/-! ## One step (95_test_vectors.md, part 2) -/

theorem test_goto_1 : runsTo [6#4, 0#4, 0#4, 8#4] start (fun s => { s with pc := 0x00801 }) = true := by decide
theorem test_goto_2 : runsTo [6#4, 5#4, 0#4, 0#4] { start with pc := 0xFFFFE } (fun s => { s with pc := 0x00004 }) = true := by decide
theorem test_goc_1 : runsTo [4#4, 5#4, 0#4] { start with carry := true } (fun s => { s with pc := 0x01006 }) = true := by decide
theorem test_goc_2 : runsTo [4#4, 13#4, 15#4] { start with carry := true } (fun s => { s with pc := 0x00FFE }) = true := by decide
theorem test_gonc_1 : runsTo [5#4, 5#4, 0#4] { start with carry := false } (fun s => { s with pc := 0x01006 }) = true := by decide
theorem test_gonc_2 : runsTo [5#4, 5#4, 0#4] { start with carry := true } (fun s => { s with pc := 0x01003 }) = true := by decide
theorem test_rtnc_1 : runsTo [4#4, 0#4, 0#4] { start with carry := true, rstk := stack 0x02222 0x03333 } (fun s => { s with rstk := stack 0x03333 0x00000, pc := 0x02222 }) = true := by decide
theorem test_rtnc_2 : runsTo [4#4, 0#4, 0#4] { start with carry := false, rstk := stack 0x02222 0x03333 } (fun s => { s with pc := 0x01003 }) = true := by decide
theorem test_golong_1 : runsTo [8#4, 12#4, 14#4, 15#4, 15#4, 7#4] { start with pc := 0x08000 } (fun s => { s with pc := 0x10000 }) = true := by decide
theorem test_golong_2 : runsTo [8#4, 12#4, 14#4, 15#4, 0#4, 15#4] { start with pc := 0x08000 } (fun s => { s with pc := 0x07100 }) = true := by decide
theorem test_govlng_1 : runsTo [8#4, 13#4, 5#4, 4#4, 3#4, 2#4, 1#4] start (fun s => { s with pc := 0x12345 }) = true := by decide
theorem test_pcIndA_1 : runsTo [8#4, 0#4, 8#4, 12#4] (withData 0x00000 [3#4, 4#4, 5#4] (withData 0xFFFFE [1#4, 2#4] { start with a := 0x00000000000FFFFE })) (fun s => { s with pc := 0x54321 }) = true := by decide
theorem test_pcIndA_above_level : refusedFor [8#4, 0#4, 8#4, 12#4] (withData 0x03000 [4#4, 3#4, 2#4, 1#4, 0#4] { start with a := 0x0000000000003000, cfg := { Params.default with version := .v1LF2 } }) (.aboveLevel 1) = true := by decide
theorem test_pcIndC_1 : runsTo [8#4, 0#4, 8#4, 14#4] (withData 0x03000 [15#4, 15#4, 15#4, 15#4, 15#4] { start with c := 0x0000000000003000 }) (fun s => { s with pc := 0xFFFFF }) = true := by decide
theorem test_pcIndC_above_level : refusedFor [8#4, 0#4, 8#4, 14#4] (withData 0x03000 [15#4, 15#4, 15#4, 15#4, 15#4] { start with c := 0x0000000000003000, cfg := { Params.default with version := .v1LK7 } }) (.aboveLevel 2) = true := by decide
theorem test_pcFromA_1 : runsTo [8#4, 1#4, 11#4, 2#4] { start with a := 0xFFFFFFFFFFF0ABCD } (fun s => { s with pc := 0x0ABCD }) = true := by decide
theorem test_pcFromC_1 : runsTo [8#4, 1#4, 11#4, 3#4] { start with c := 0x0000000000000010 } (fun s => { s with pc := 0x00010 }) = true := by decide
theorem test_apcex_1 : runsTo [8#4, 1#4, 11#4, 6#4] { start with pc := 0x02000, a := 0xAAAAAAAAAAA03000 } (fun s => { s with a := 0xAAAAAAAAAAA02004, pc := 0x03000 }) = true := by decide
theorem test_cpcex_1 : runsTo [8#4, 1#4, 11#4, 7#4] { start with pc := 0x02000, c := 0x0000000000000ABC } (fun s => { s with c := 0x0000000000002004, pc := 0x00ABC }) = true := by decide
theorem test_gosub_1 : runsTo [7#4, 13#4, 0#4, 0#4] { start with rstk := stack 0x11111 0x22222 } (fun s => { s with rstk := ⟨0x01004, 0x11111, 0x22222, 0x00000, 0x00000, 0x00000, 0x00000, 0x00000⟩, pc := 0x01011 }) = true := by decide
theorem test_gosub_2 : runsTo [7#4, 12#4, 15#4, 15#4] { start with rstk := stack 0x00000 0x00000 } (fun s => { s with rstk := stack 0x01004 0x00000, pc := 0x01000 }) = true := by decide
theorem test_gosubl_1 : runsTo [8#4, 14#4, 0#4, 0#4, 0#4, 1#4] { start with rstk := stack 0x00000 0x00000 } (fun s => { s with rstk := stack 0x01006 0x00000, pc := 0x02006 }) = true := by decide
theorem test_gosubl_2 : runsTo [8#4, 14#4, 10#4, 15#4, 15#4, 15#4] { start with rstk := stack 0x00000 0x00000 } (fun s => { s with rstk := stack 0x01006 0x00000, pc := 0x01000 }) = true := by decide
theorem test_gosbvl_1 : runsTo [8#4, 15#4, 0#4, 0#4, 0#4, 2#4, 0#4] { start with rstk := stack 0x00000 0x00000 } (fun s => { s with rstk := stack 0x01007 0x00000, pc := 0x02000 }) = true := by decide
theorem test_gosbvl_2 : runsTo [8#4, 15#4, 0#4, 0#4, 0#4, 2#4, 0#4] { start with rstk := ⟨0x11111, 0x22222, 0x33333, 0x44444, 0x55555, 0x66666, 0x77777, 0x88888⟩ } (fun s => { s with rstk := ⟨0x01007, 0x11111, 0x22222, 0x33333, 0x44444, 0x55555, 0x66666, 0x77777⟩, pc := 0x02000 }) = true := by decide
theorem test_rtn_1 : runsTo [0#4, 1#4] { start with carry := true, rstk := stack 0x04321 0x05432 } (fun s => { s with rstk := stack 0x05432 0x00000, pc := 0x04321 }) = true := by decide
theorem test_rtn_2 : runsTo [0#4, 1#4] { start with rstk := stack 0x00000 0x00000 } (fun s => { s with pc := 0x00000 }) = true := by decide
theorem test_rtnsc_1 : runsTo [0#4, 2#4] { start with carry := false, rstk := stack 0x04321 0x05432 } (fun s => { s with carry := true, rstk := stack 0x05432 0x00000, pc := 0x04321 }) = true := by decide
theorem test_rtncc_1 : runsTo [0#4, 3#4] { start with carry := true, rstk := stack 0x04321 0x05432 } (fun s => { s with carry := false, rstk := stack 0x05432 0x00000, pc := 0x04321 }) = true := by decide
theorem test_rtnsxm_1 : runsTo [0#4, 0#4] { start with hst := 0b1000, rstk := stack 0x04321 0x05432 } (fun s => { s with hst := 0b1001, rstk := stack 0x05432 0x00000, pc := 0x04321 }) = true := by decide
theorem test_rti_1 : runsTo [0#4, 15#4] { start with inte := false, rstk := stack 0x04321 0x05432 } (fun s => { s with inte := true, rstk := stack 0x05432 0x00000, pc := 0x04321 }) = true := by decide
theorem test_rtnnc_1 : runsTo [5#4, 0#4, 0#4] { start with carry := false, rstk := stack 0x04321 0x05432 } (fun s => { s with rstk := stack 0x05432 0x00000, pc := 0x04321 }) = true := by decide
theorem test_rtnnc_2 : runsTo [5#4, 0#4, 0#4] { start with carry := true, rstk := stack 0x04321 0x05432 } (fun s => { s with pc := 0x01003 }) = true := by decide
theorem test_eqAConF_1 : runsTo [9#4, 1#4, 2#4, 0#4, 1#4] { start with a := 0x0000000000012345, c := 0x0000000000099995, p := 0x0 } (fun s => { s with carry := true, pc := 0x01013 }) = true := by decide
theorem test_eqAConF_2 : runsTo [9#4, 1#4, 2#4, 0#4, 1#4] { start with a := 0x0000000000012345, c := 0x0000000000099995, p := 0xF } (fun s => { s with pc := 0x01005 }) = true := by decide
theorem test_gtABonF_1 : runsTo [9#4, 12#4, 0#4, 0#4, 1#4] { start with a := 0x8000000000000000, b := 0x7000000000000000 } (fun s => { s with carry := true, pc := 0x01013 }) = true := by decide
theorem test_geABonA_1 : runsTo [8#4, 11#4, 8#4, 0#4, 1#4] { start with a := 0x0000000000054321, b := 0x0000000000054321 } (fun s => { s with carry := true, pc := 0x01013 }) = true := by decide
theorem test_gtABonA_1 : runsTo [8#4, 11#4, 0#4, 0#4, 1#4] { start with a := 0x0000000000054321, b := 0x0000000000054321 } (fun s => { s with pc := 0x01005 }) = true := by decide
theorem test_eqABonA_1 : runsTo [8#4, 10#4, 0#4, 0#4, 0#4] { start with a := 0x0000000000000001, b := 0x0000000000000001, rstk := stack 0x02222 0x00000 } (fun s => { s with carry := true, rstk := stack 0x00000 0x00000, pc := 0x02222 }) = true := by decide
theorem test_eqABonA_2 : runsTo [8#4, 10#4, 0#4, 0#4, 1#4] { start with a := 0xFFFFFFFFFFF11111, b := 0x0000000000011111 } (fun s => { s with carry := true, pc := 0x01013 }) = true := by decide
theorem test_neA0onA_1 : runsTo [8#4, 10#4, 12#4, 12#4, 15#4] { start with a := 0x0000000000000001 } (fun s => { s with carry := true, pc := 0x00FFF }) = true := by decide
theorem test_eqD0onF_1 : runsTo [9#4, 7#4, 11#4, 15#4, 7#4] { start with d := 0x0000000000000000 } (fun s => { s with carry := true, pc := 0x01082 }) = true := by decide
theorem test_tstPEq_1 : runsTo [8#4, 9#4, 4#4, 8#4, 0#4] { start with p := 0x4 } (fun s => { s with carry := true, pc := 0x0100B }) = true := by decide
theorem test_tstPEq_2 : runsTo [8#4, 9#4, 4#4, 8#4, 0#4] { start with p := 0x5 } (fun s => { s with pc := 0x01005 }) = true := by decide
theorem test_tstPNe_1 : runsTo [8#4, 8#4, 0#4, 0#4, 0#4] { start with p := 0x3, rstk := stack 0x02222 0x00000 } (fun s => { s with carry := true, rstk := stack 0x00000 0x00000, pc := 0x02222 }) = true := by decide
theorem test_tstPNe_2 : runsTo [8#4, 8#4, 3#4, 8#4, 0#4] { start with p := 0x3, carry := true } (fun s => { s with carry := false, pc := 0x01005 }) = true := by decide
theorem test_tstSt0_1 : runsTo [8#4, 6#4, 11#4, 5#4, 0#4] { start with carry := true, st := 0x0800 } (fun s => { s with carry := false, pc := 0x01005 }) = true := by decide
theorem test_tstSt0_2 : runsTo [8#4, 6#4, 11#4, 5#4, 0#4] { start with st := 0xF7FF } (fun s => { s with carry := true, pc := 0x01008 }) = true := by decide
theorem test_tstSt1_1 : runsTo [8#4, 7#4, 3#4, 5#4, 0#4] { start with st := 0x0008 } (fun s => { s with carry := true, pc := 0x01008 }) = true := by decide
theorem test_tstSt1_2 : runsTo [8#4, 7#4, 15#4, 5#4, 0#4] { start with st := 0x8000 } (fun s => { s with carry := true, pc := 0x01008 }) = true := by decide
theorem test_tstXm0_1 : runsTo [8#4, 3#4, 1#4, 4#4, 0#4] { start with carry := true, hst := 0b0001 } (fun s => { s with carry := false, pc := 0x01005 }) = true := by decide
theorem test_tstSb0_1 : runsTo [8#4, 3#4, 2#4, 4#4, 0#4] { start with hst := 0b0001 } (fun s => { s with carry := true, pc := 0x01007 }) = true := by decide
theorem test_tstSr0_1 : runsTo [8#4, 3#4, 4#4, 0#4, 0#4] { start with carry := true, hst := 0b0100, rstk := stack 0x02222 0x00000 } (fun s => { s with carry := false, pc := 0x01005 }) = true := by decide
theorem test_tstMp0_1 : runsTo [8#4, 3#4, 8#4, 4#4, 0#4] { start with carry := true, hst := 0b1000 } (fun s => { s with carry := false, pc := 0x01005 }) = true := by decide
theorem test_tstHs0_1 : runsTo [8#4, 3#4, 3#4, 4#4, 0#4] { start with hst := 0b0100 } (fun s => { s with carry := true, pc := 0x01007 }) = true := by decide
theorem test_tstHs0_2 : runsTo [8#4, 3#4, 3#4, 4#4, 0#4] { start with carry := true, hst := 0b0010 } (fun s => { s with carry := false, pc := 0x01005 }) = true := by decide
theorem test_tstAbit0_1 : runsTo [8#4, 0#4, 8#4, 6#4, 4#4, 6#4, 0#4] { start with a := 0x0000000000000010, carry := true } (fun s => { s with carry := false, pc := 0x01007 }) = true := by decide
theorem test_tstAbit1_1 : runsTo [8#4, 0#4, 8#4, 7#4, 4#4, 6#4, 0#4] { start with a := 0x0000000000000010 } (fun s => { s with carry := true, pc := 0x0100B }) = true := by decide
theorem test_tstCbit0_1 : runsTo [8#4, 0#4, 8#4, 10#4, 15#4, 0#4, 0#4] { start with c := 0x0000000000007FFF, rstk := stack 0x03000 0x00000 } (fun s => { s with carry := true, rstk := stack 0x00000 0x00000, pc := 0x03000 }) = true := by decide
theorem test_tstCbit1_1 : runsTo [8#4, 0#4, 8#4, 11#4, 0#4, 6#4, 0#4] { start with c := 0x0000000000000002, carry := true } (fun s => { s with carry := false, pc := 0x01007 }) = true := by decide
theorem test_tstCbit1_above_level : refusedFor [8#4, 0#4, 8#4, 11#4, 0#4, 6#4, 0#4] ({ start with c := 0x0000000000000002, cfg := { Params.default with version := .v1LK7 } }) (.aboveLevel 2) = true := by decide
theorem test_pSet_1 : runsTo [2#4, 3#4] { start with p := 0x9, carry := true } (fun s => { s with p := 0x3, pc := 0x01002 }) = true := by decide
theorem test_pSet_2 : runsTo [2#4, 15#4] { start with p := 0x0 } (fun s => { s with p := 0xF, pc := 0x01002 }) = true := by decide
theorem test_pInc_1 : runsTo [0#4, 12#4] { start with p := 0xF, carry := false } (fun s => { s with p := 0x0, carry := true, pc := 0x01002 }) = true := by decide
theorem test_pInc_2 : runsTo [0#4, 12#4] { start with p := 0x9, carry := true } (fun s => { s with p := 0xA, carry := false, pc := 0x01002 }) = true := by decide
theorem test_pDec_1 : runsTo [0#4, 13#4] { start with p := 0x0, carry := false } (fun s => { s with p := 0xF, carry := true, pc := 0x01002 }) = true := by decide
theorem test_pDec_2 : runsTo [0#4, 13#4] { start with p := 0x3, carry := true } (fun s => { s with p := 0x2, carry := false, pc := 0x01002 }) = true := by decide
theorem test_cAddP1_1 : runsTo [8#4, 0#4, 9#4] { start with c := 0x00000000000ABCDE, p := 0x4, carry := true } (fun s => { s with c := 0x00000000000ABCE3, carry := false, pc := 0x01003 }) = true := by decide
theorem test_cAddP1_2 : runsTo [8#4, 0#4, 9#4] { start with c := 0x12300000000FFFFF, p := 0x0 } (fun s => { s with c := 0x1230000000000000, carry := true, pc := 0x01003 }) = true := by decide
theorem test_cpex_1 : runsTo [8#4, 0#4, 15#4, 1#4] { start with c := 0x0000000000000A50, p := 0x2 } (fun s => { s with c := 0x0000000000000A20, p := 0x5, pc := 0x01004 }) = true := by decide
theorem test_cpex_2 : runsTo [8#4, 0#4, 15#4, 15#4] { start with c := 0x7000000000000000, p := 0x1 } (fun s => { s with c := 0x1000000000000000, p := 0x7, pc := 0x01004 }) = true := by decide
theorem test_pFromC_1 : runsTo [8#4, 0#4, 13#4, 1#4] { start with c := 0x000000000000007B, p := 0x0 } (fun s => { s with p := 0x7, pc := 0x01004 }) = true := by decide
theorem test_cFromP_1 : runsTo [8#4, 0#4, 12#4, 0#4] { start with c := 0x0000000000000000, p := 0x5 } (fun s => { s with c := 0x0000000000000005, pc := 0x01004 }) = true := by decide
theorem test_cFromP_2 : runsTo [8#4, 0#4, 12#4, 15#4] { start with c := 0x0000000000000000, p := 0x5 } (fun s => { s with c := 0x5000000000000000, pc := 0x01004 }) = true := by decide
theorem test_abit0_1 : runsTo [8#4, 0#4, 8#4, 4#4, 4#4] { start with a := 0x000000000000FFFF } (fun s => { s with a := 0x000000000000FFEF, pc := 0x01005 }) = true := by decide
theorem test_abit0_2 : runsTo [8#4, 0#4, 8#4, 4#4, 4#4] { start with a := 0x000000000000FFEF } (fun s => { s with pc := 0x01005 }) = true := by decide
theorem test_abit1_1 : runsTo [8#4, 0#4, 8#4, 5#4, 15#4] { start with a := 0x0000000000000000 } (fun s => { s with a := 0x0000000000008000, pc := 0x01005 }) = true := by decide
theorem test_cbit0_1 : runsTo [8#4, 0#4, 8#4, 8#4, 0#4] { start with c := 0x0000000000000001 } (fun s => { s with c := 0x0000000000000000, pc := 0x01005 }) = true := by decide
theorem test_cbit1_1 : runsTo [8#4, 0#4, 8#4, 9#4, 10#4] { start with c := 0x0000000000000000 } (fun s => { s with c := 0x0000000000000400, pc := 0x01005 }) = true := by decide
theorem test_cbit1_above_level : refusedFor [8#4, 0#4, 8#4, 9#4, 10#4] ({ start with c := 0x0000000000000000, cfg := { Params.default with version := .v1LF2 } }) (.aboveLevel 2) = true := by decide
theorem test_st0_1 : runsTo [8#4, 4#4, 3#4] { start with st := 0xFFFF } (fun s => { s with st := 0xFFF7, pc := 0x01003 }) = true := by decide
theorem test_st1_1 : runsTo [8#4, 5#4, 0#4] { start with st := 0x0000 } (fun s => { s with st := 0x0001, pc := 0x01003 }) = true := by decide
theorem test_st1_2 : runsTo [8#4, 5#4, 15#4] { start with st := 0x0000, inte := true } (fun s => { s with st := 0x8000, pc := 0x01003 }) = true := by decide
theorem test_cstex_1 : runsTo [0#4, 11#4] { start with c := 0x0000000000000456, st := 0xF123 } (fun s => { s with c := 0x0000000000000123, st := 0xF456, pc := 0x01002 }) = true := by decide
theorem test_cFromSt_1 : runsTo [0#4, 9#4] { start with c := 0xFFFFFFFFFFFFFFFF, st := 0x8ABC } (fun s => { s with c := 0xFFFFFFFFFFFFFABC, pc := 0x01002 }) = true := by decide
theorem test_stFromC_1 : runsTo [0#4, 10#4] { start with c := 0x0000000000000FFF, st := 0xC000 } (fun s => { s with st := 0xCFFF, pc := 0x01002 }) = true := by decide
theorem test_clrst_1 : runsTo [0#4, 8#4] { start with st := 0xFFFF } (fun s => { s with st := 0xF000, pc := 0x01002 }) = true := by decide
theorem test_xm0_1 : runsTo [8#4, 2#4, 1#4] { start with hst := 0b1111 } (fun s => { s with hst := 0b1110, pc := 0x01003 }) = true := by decide
theorem test_sb0_1 : runsTo [8#4, 2#4, 2#4] { start with hst := 0b1111 } (fun s => { s with hst := 0b1101, pc := 0x01003 }) = true := by decide
theorem test_sr0_1 : runsTo [8#4, 2#4, 4#4] { start with hst := 0b1111 } (fun s => { s with hst := 0b1011, pc := 0x01003 }) = true := by decide
theorem test_mp0_1 : runsTo [8#4, 2#4, 8#4] { start with hst := 0b1111 } (fun s => { s with hst := 0b0111, pc := 0x01003 }) = true := by decide
theorem test_clrhs_1 : runsTo [8#4, 2#4, 15#4] { start with hst := 0b1011 } (fun s => { s with hst := 0b0000, pc := 0x01003 }) = true := by decide
theorem test_hs0_1 : runsTo [8#4, 2#4, 3#4] { start with hst := 0b1111 } (fun s => { s with hst := 0b1100, pc := 0x01003 }) = true := by decide
theorem test_hs0_2 : runsTo [8#4, 2#4, 0#4] { start with hst := 0b1010 } (fun s => { s with pc := 0x01003 }) = true := by decide

/-- The common start state of the register-test vectors (95_test_vectors.md, section 2.3). -/
def beforeTests : State :=
  { start with a := 0x8000000000012345, b := 0x7000000000012345, c := 0x8000000000002345, d := 0, p := 4 }


/-! ## Fetching, the boundary, cycles, the assembler's offsets -/

theorem test_fetch_wraps_at_the_top :
    runsTo [8#4, 4#4, 3#4] { start with pc := 0xFFFFF, st := 0xFFFF } (fun s => { s with st := 0xFFF7, pc := 0x00002 }) = true := by
  decide
theorem test_unlisted_names_what_was_read : refusedFor [8#4, 0#4, 14#4, 1#4] start (.unlisted 0x01000 [8#4, 0#4, 14#4]) = true := by
  decide
theorem test_unreadable_second_nibble : refusedFor [2#4] start (.unreadable 0x01001) = true := by decide
theorem test_unreadable_data_nibble :
    refusedFor [8#4, 0#4, 8#4, 12#4] (withData 0x03000 [4#4, 3#4] { start with a := 0x3000 }) (.unreadable 0x03002) = true := by decide
theorem test_strict_mask_refused :
    refusedFor [8#4, 3#4, 3#4, 1#4, 0#4] { start with cfg := { Params.default with hsMaskGeneral := false } }
      (.unlisted 0x01000 [8#4, 3#4, 3#4]) = true := by decide

/-- A machine that takes interrupts, about to take one at the PC 01000h, with `ns` at the vector. -/
def interrupted (ns : List Nibble) : State :=
  withData 0x0000F ns { start with
    inte := true, env := [⟨0b1100, true⟩], cfg := { Params.default with interrupts := .vector0000F, hstAsync := 0b1000 } }

theorem test_interrupt_enters_and_handler_runs :
    (match step (interrupted [2#4, 7#4]) with
      | .next t => decide (t.pc = 0x00011 ∧ t.p = 7 ∧ t.rstk = stack 0x01000 0 ∧ t.inte = false ∧ t.hst = 0b1000 ∧ t.env = [])
      | .refused _ => false
      | .fault r => nomatch r) = true := by decide
theorem test_signal_while_disabled_is_lost :
    (atBoundary { interrupted [] with inte := false }).pc = 0x01000 ∧ (atBoundary { interrupted [] with inte := false }).env = [] := by
  decide
/-- A run whose EXIT holds the interrupt vector ends at the entry, before the handler's first instruction (log entry 26). -/
theorem test_run_ends_at_an_interrupt_entry_into_exit :
    runUntil [0x0000F] 5 (interrupted [2#4, 7#4]) = .exit (atBoundary (interrupted [2#4, 7#4])) ∧
    (atBoundary (interrupted [2#4, 7#4])).pc = 0x0000F ∧ (atBoundary (interrupted [2#4, 7#4])).p = 0 := ⟨rfl, rfl, rfl⟩
theorem test_run_at_exit_takes_no_interrupt : runUntil [0x01000] 5 (interrupted []) = .exit (interrupted []) := by rfl
theorem test_run_goes_on_to_exit :
    runUntil [0x01002] 5 (holding [2#4, 7#4] start) = .exit { holding [2#4, 7#4] start with p := 7, pc := 0x01002 } := by rfl
theorem test_reset_fetches_nothing : step State.reset = .refused (.unreadable 0) := by rfl
theorem test_placed_word_runs_first : step (State.reset.withFetchWord 16 0x0054) = .next { State.reset.withFetchWord 16 0x0054 with pc := 3 } := by
  rfl
theorem test_cycles_of_a_field_test :
    cycles (.eqAConF .wp .rtnyes) { start with p := 4 } = some 18 ∧ cycles (.neAConF .wp .rtnyes) { start with p := 4 } = some 11 := by
  decide
theorem test_assemble_goto_backward : assembleGoto 0x01000 0x00801 = some (.goto 0x800) := by decide
theorem test_assemble_goto_out_of_reach : assembleGoto 0x01000 0x00800 = none := by decide
theorem test_assemble_goc_offset_zero : assembleGoc 0x01000 0x01001 = none := by decide
theorem test_goyes_row : exec (.goyes 0xFC) { start with pc := 0x01003, carry := true } =
    .next { start with pc := 0x00FFF, carry := true } := by rfl
theorem test_rtnyes_row : exec .rtnyes { start with pc := 0x01003, carry := false } = .next { start with pc := 0x01005 } := by rfl

/-! ## Inputs that meet the hypotheses of the statements -/

/-- The machine of the lowest version. -/
def oldest : State := { start with cfg := { Params.default with version := .v1LF2 } }
/-- A machine that admits the listed masks only. -/
def strict : State := { start with cfg := { Params.default with hsMaskGeneral := false } }

theorem test_witness_DecodeOfEncodeGivesTheInstruction :
    (Instr.golong 0xF0FE).wf = true ∧ (Instr.eqAConF .wp (.goyes 0x80)).wf = true ∧ (Instr.hs0 0).wf = true := by decide
theorem test_witness_DecodedInstructionIsTheOneEncoded :
    decode false [8#4, 2#4, 15#4] = .ok .clrhs ∧ decode true [9#4, 8#4, 0#4, 0#4, 1#4, 5#4] = .ok (.gtABonF .p (.goyes 0x10)) := by decide
theorem test_witness_StrictMachineAdmitsOnlyTheListedMasks :
    (∀ m q, [8#4, 2#4, 15#4] = 8#4 :: 2#4 :: m :: q → listedClear m) ∧ (∀ m q, [8#4, 2#4, 15#4] = 8#4 :: 3#4 :: m :: q → listedTest m) :=
  ⟨fun _ _ h => by injection h with _ h; injection h with _ h; injection h with h _; exact .inr (.inr (.inr (.inr h.symm))),
    fun _ _ h => by injection h with _ h; injection h with h _; exact absurd h (by decide)⟩
theorem test_witness_TableWordOfAnInstructionDecodesToIt : (Instr.gonc 0xEF).wf = true ∧ 4 * (Instr.gonc 0xEF).length ≤ 16 := by decide
theorem test_witness_StepRunsTheDecodedInstruction :
    (Instr.pSet 7).wf = true ∧
    decode (atBoundary (interrupted [2#4, 7#4])).cfg.hsMaskGeneral
      (fetchNibbles (atBoundary (interrupted [2#4, 7#4])).mem (atBoundary (interrupted [2#4, 7#4])).pc 7) = .ok (.pSet 7) := by decide
theorem test_witness_StepRunsTheDecodedInstruction_quiet :
    (holding [2#4, 7#4] start).env = [] ∧
    decode (atBoundary (holding [2#4, 7#4] start)).cfg.hsMaskGeneral
      (fetchNibbles (atBoundary (holding [2#4, 7#4] start)).mem (atBoundary (holding [2#4, 7#4] start)).pc 7) = .ok (.pSet 7) := by decide
theorem test_witness_PlacedInstructionRunsNext :
    (Instr.govlng 0x12345).wf = true ∧ 4 * (Instr.govlng 0x12345).length ≤ 28 ∧ { start with pc := 0xFFFFE }.cfg.hsMaskGeneral = true := by
  decide
theorem test_witness_RefusedReadNamesAnUnreadableNibble :
    step State.reset = .refused (.unreadable 0) ∧ Memory.read State.reset.mem (atBoundary State.reset).pc = none ∧
    step (holding [8#4, 0#4, 8#4, 14#4] start) = .refused (.unreadable 0) := ⟨rfl, rfl, rfl⟩
theorem test_witness_InstructionAboveTheLevelIsRefused :
    oldest.cfg.version.level < Instr.level .pcIndA ∧ exec .pcFromA start = .next { start with pc := 0 } := ⟨by decide, rfl⟩
theorem test_witness_EveryAdmittedInstructionCompletes :
    maskAdmitted strict (.hs0 15) ∧ maskAdmitted start (.hs0 0) ∧ ¬ maskAdmitted strict (.tstHs0 15 .rtnyes) ∧
    dataReadable (withData 0xFFFFE [1#4, 2#4, 3#4, 4#4, 5#4] { start with a := 0xFFFFE }) .pcIndA ∧
    ¬ dataReadable (withData 0 [1#4, 2#4, 3#4, 4#4] start) .pcIndC := by
  unfold maskAdmitted dataReadable listedClear listedTest; decide
theorem test_witness_StepKeepsMemoryCanonical :
    (holding [2#4, 7#4] start).Inv = true ∧ step (holding [2#4, 7#4] start) = .next { holding [2#4, 7#4] start with p := 7, pc := 0x01002 } :=
  ⟨by decide, rfl⟩
theorem test_witness_StepLeavesUnreachedStateAlone :
    step (interrupted [2#4, 7#4]) = .next { interrupted [2#4, 7#4] with
      p := 7, pc := 0x00011, rstk := stack 0x01000 0, inte := false, hst := 0b1000, env := [] } := rfl
theorem test_witness_CarryIsWrittenOnlyByItsWriters :
    writesCarry (.goto 1) = false ∧ exec (.goto 1) start = .next { start with pc := 0x01002 } ∧
    isTest (.tstPEq 5 .rtnyes) = true ∧ exec (.tstPEq 5 .rtnyes) start = .next { start with pc := 0x01005, carry := false } :=
  ⟨rfl, rfl, rfl, rfl⟩
theorem test_witness_CarryIsWrittenOnlyByItsWriters_taken :
    testSuffix (.tstCbit0 15 (.goyes 0x80)) = some (.goyes 0x80) ∧
    exec (.tstCbit0 15 (.goyes 0x80)) start = .next { start with pc := 0x00F85, carry := true } ∧
    testSuffix (.eqA0onF .w .rtnyes) = some .rtnyes ∧
    exec (.eqA0onF .w .rtnyes) { start with rstk := stack 0x02222 0x03333 } =
      .next { start with rstk := stack 0x03333 0, pc := 0x02222, carry := true } := ⟨rfl, rfl, rfl, rfl⟩
theorem test_witness_HstBitsAreSticky :
    step (interrupted [0#4, 0#4]) = .next { interrupted [0#4, 0#4] with pc := 0x01000, inte := false, hst := 0b1001, env := [] } ∧
    clearsHst .rtnsxm = false ∧ (0b1001#4).getLsbD 0 = true ∧ (0b1001#4).getLsbD 3 = true :=
  ⟨rfl, rfl, by decide, by decide⟩
theorem test_witness_HstBitsAreSticky_kept :
    step (holding [2#4, 7#4] { start with hst := 0b0110 }) = .next { holding [2#4, 7#4] { start with hst := 0b0110 } with p := 7, pc := 0x01002 } ∧
    clearsHst (.pSet 7) = false := ⟨rfl, rfl⟩
theorem test_witness_FlagsCToFChangeOnlyByStZeroAndStOne :
    exec .clrst { start with st := 0xF00F } = .next { start with st := 0xF000, pc := 0x01002 } ∧ (∀ n, Instr.clrst ≠ .st0 n) ∧
    (∀ n, Instr.clrst ≠ .st1 n) ∧ writesSt .xm0 = false ∧ exec .xm0 start = .next { start with pc := 0x01003 } :=
  ⟨rfl, fun _ => nofun, fun _ => nofun, rfl, rfl⟩
theorem test_witness_ReturnStackChangesOnlyByCallsAndReturns :
    usesStack (.goyes 4) = false ∧ exec (.goyes 4) start = .next { start with pc := 0x01002 } ∧ Instr.goyes 4 ≠ .rti ∧
    exec .rti start = .next { start with pc := 0, inte := true } := ⟨rfl, rfl, nofun, rfl⟩
theorem test_witness_ReturnStackChangesOnlyByCallsAndReturns_goyes :
    usesStack (.eqA0onA (.goyes 4)) = false ∧ usesStack (.eqA0onA .rtnyes) = true ∧
    exec (.eqA0onA (.goyes 4)) start = .next { start with pc := 0x01007, carry := true } := ⟨by decide, by decide, rfl⟩
theorem test_witness_WorkingRegistersHaveTheirWriters :
    writesA .cstex = false ∧ writesP .cstex = false ∧ writesC (.pFromC 15) = false ∧
    exec .cstex start = .next { start with pc := 0x01002 } ∧ exec (.pFromC 15) start = .next { start with pc := 0x01004 } :=
  ⟨rfl, rfl, rfl, rfl, rfl⟩
theorem test_witness_InterruptEntrySavesThePcAndDisables :
    (interrupted []).env = ⟨0b1100, true⟩ :: [] ∧ (interrupted []).cfg.interrupts = .vector0000F ∧ (interrupted []).inte = true ∧
    (⟨0b1100, true⟩ : EnvEvent).irq = true := by decide
theorem test_witness_NoInterruptIsTakenOtherwise :
    ({ interrupted [] with inte := false }).env = ⟨0b1100, true⟩ :: [] ∧ ({ interrupted [] with inte := false }).inte = false ∧
    ({ start with env := [⟨1, true⟩] }).cfg.interrupts = .none ∧ (⟨15, false⟩ : EnvEvent).irq = false ∧ start.env = [] := by decide
theorem test_witness_MemReadTakesTheLowestAddressAsLeastSignificant :
    memRead (writeNibbles [] 0xFFFFE [1#4, 2#4, 3#4]) 0xFFFFE 3 = .ok 0x321 ∧ memRead [] 0 0 = .ok 0 ∧ 3 ≤ 2 ^ 20 :=
  ⟨rfl, rfl, by decide⟩
theorem test_witness_AbsoluteAndRegisterJumpsTakeTheAddress : 2 ≤ start.cfg.version.level := by decide
theorem test_witness_IndirectJumpsReadFiveNibbles :
    1 ≤ { start with cfg := { Params.default with version := .v1LK7 } }.cfg.version.level ∧
    (nibbleAt (withData 0xFFFFE [1#4, 2#4, 3#4, 4#4, 5#4] start) 0xFFFFE 0, nibbleAt (withData 0xFFFFE [1#4, 2#4, 3#4, 4#4, 5#4] start) 0xFFFFE 1,
      nibbleAt (withData 0xFFFFE [1#4, 2#4, 3#4, 4#4, 5#4] start) 0xFFFFE 2, nibbleAt (withData 0xFFFFE [1#4, 2#4, 3#4, 4#4, 5#4] start) 0xFFFFE 3,
      nibbleAt (withData 0xFFFFE [1#4, 2#4, 3#4, 4#4, 5#4] start) 0xFFFFE 4) = (some 1, some 2, some 3, some 4, some 5) := by decide
theorem test_witness_IndirectJumpsReadFiveNibbles_unreadable :
    nibbleAt start 0 0 = none ∧ (∀ j < 4, (nibbleAt (withData 0 [1#4, 2#4, 3#4, 4#4] start) 0 j).isSome = true) ∧
    nibbleAt (withData 0 [1#4, 2#4, 3#4, 4#4] start) 0 4 = none := by decide
theorem test_witness_ExchangesWithPcSaveTheNextAddress :
    2 ≤ start.cfg.version.level ∧ exec .apcex { start with pc := 0xFFFFE, a := 0x7FFFFFFF12345 } =
      .next { start with pc := 0x12345, a := 0x7FFFFFFF00002 } := ⟨by decide, rfl⟩
theorem test_witness_AssembledJumpsLandOnTheirLabel :
    assembleGoto start.pc 0x00801 = some (.goto 0x800) ∧ assembleGosub start.pc 0x01803 = some (.gosub 0x7FF) ∧
    assembleGolong start.pc 0xF9002 = some (.golong 0x8000) ∧ assembleGosubl start.pc 0x09005 = some (.gosubl 0x7FFF) := by decide
theorem test_witness_AssembledJumpsLandOnTheirLabel_conditional :
    assembleGoc start.pc 0x00F81 = some (.goc 0x80) ∧ assembleGonc start.pc 0x01080 = some (.gonc 0x7F) ∧ start.carry = false ∧
    { start with carry := true }.carry = true := by decide
theorem test_witness_AssembledJumpsLandOnTheirLabel_suffix :
    assembleGoyes 5 start.pc 0x00F85 = some (.goyes 0x80) ∧ (Instr.tstCbit0 15 (.goyes 0x80)).length = 5 + 2 ∧
    testSuffix (.tstCbit0 15 (.goyes 0x80)) = some (.goyes 0x80) ∧
    exec (.tstCbit0 15 (.goyes 0x80)) start = .next { start with pc := 0x00F85, carry := true } := ⟨rfl, rfl, rfl, rfl⟩
theorem test_assemble_out_of_reach :
    assembleGosub start.pc 0x01804 = none ∧ assembleGolong start.pc 0x09002 = none ∧ assembleGosubl start.pc 0xF9005 = none ∧
    assembleGonc start.pc 0x01081 = none ∧ assembleGoyes 3 start.pc 0x01003 = none ∧ assembleGoyes 3 start.pc 0x01083 = none := by decide
theorem test_witness_ReturnAfterCallResumesAfterTheCall :
    (∃ off, Instr.gosub 5 = .gosub off ∧ 4 = 4) ∧ (∃ off, Instr.gosubl 5 = .gosubl off ∧ 6 = 6) ∧ (∃ addr, Instr.gosbvl 5 = .gosbvl addr ∧ 7 = 7) :=
  ⟨⟨5, rfl, rfl⟩, ⟨5, rfl, rfl⟩, ⟨5, rfl, rfl⟩⟩
theorem test_witness_EightReturnsEmptyTheStack : start.rstk = RStk.zero ∧ 8 ≤ 8 := by decide
theorem test_eight_pops_of_a_full_stack :
    levels (popStk^[7] ⟨1, 2, 3, 4, 5, 6, 7, 8⟩) = [8, 0, 0, 0, 0, 0, 0, 0] ∧ popStk^[8] ⟨1, 2, 3, 4, 5, 6, 7, 8⟩ = RStk.zero := ⟨rfl, rfl⟩
theorem test_ninth_push_loses_the_first :
    levels (([1, 2, 3, 4, 5, 6, 7, 8, 9] : List Addr).foldl pushStk RStk.zero) = [9, 8, 7, 6, 5, 4, 3, 2] := rfl
theorem test_witness_GeneralHstTestReadsTheMask :
    start.cfg.hsMaskGeneral = true ∧ listedTest 8 ∧ strict.cfg.hsMaskGeneral = false ∧ ¬ listedTest 15 ∧ ¬ listedTest 0 := by
  unfold listedTest; decide
theorem test_witness_GeneralHstClearClearsTheMask :
    start.cfg.hsMaskGeneral = true ∧ listedClear 15 ∧ strict.cfg.hsMaskGeneral = false ∧ ¬ listedClear 3 ∧ ¬ listedClear 0 := by
  unfold listedClear; decide
theorem test_witness_RegisterBitTestsReadOneBit :
    2 ≤ start.cfg.version.level ∧ exec (.tstCbit1 15 .rtnyes) { start with c := 0x8000 } = .next { start with c := 0x8000, carry := true, pc := 0 } :=
  ⟨by decide, rfl⟩
theorem test_witness_BitInstructionsWriteOneBit :
    2 ≤ start.cfg.version.level ∧ exec (.abit1 15) start = .next { start with a := 0x8000, pc := 0x01005 } := ⟨by decide, rfl⟩
theorem test_witness_TestCyclesFollowTheResult :
    testCost start.p (.eqD0onF .w .rtnyes) = some (29, 22) ∧ exec (.eqD0onF .w .rtnyes) start = .next { start with carry := true, pc := 0 } ∧
    testCost start.p (.tstSt1 15 .rtnyes) = some (14, 7) ∧ exec (.tstSt1 15 .rtnyes) start = .next { start with pc := 0x01005 } :=
  ⟨by decide, rfl, by decide, rfl⟩

end Sys2Proof.Tests
end

section
/-!
PROOF. What the decoder answers is the instruction whose encoding it has read (30_encoding.md R97, R105). One property,
`ReadsBack`, is carried down the opcode map from table to table: each sub-decoder has it relative to the nibbles read before it.
-/

namespace Sys2Proof.ReadBack
open Sys2Proof

/-! ## Encodings, operands and digits -/

/-- The encoding of every instruction has the length of R105's table; the 123 rows are those of Laws/PerInstr.lean. -/
theorem encode_length (i : Instr) : (encode i).length = i.length := by
  open Sys2Proof.Laws.LengthOfEncoding in
  cases i
  exacts [rtnsxm, rtn, rtnsc, rtncc, clrst, cFromSt, stFromC, cstex, pInc, pDec, rti, pSet _, goc _, rtnc, gonc _,
    rtnnc, goto _, gosub _, cAddP1, cFromP _, pFromC _, cpex _, abit0 _, abit1 _, tstAbit0 _ _, tstAbit1 _ _, cbit0 _,
    cbit1 _, tstCbit0 _ _, tstCbit1 _ _, pcIndA, pcIndC, pcFromA, pcFromC, apcex, cpcex, hs0 _, xm0, sb0, sr0, mp0,
    clrhs, tstHs0 _ _, tstXm0 _, tstSb0 _, tstSr0 _, tstMp0 _, st0 _, st1 _, tstSt0 _ _, tstSt1 _ _, tstPNe _ _,
    tstPEq _ _, eqABonA _, eqABonF _ _, eqBConA _, eqBConF _ _, eqAConA _, eqAConF _ _, eqCDonA _, eqCDonF _ _,
    neABonA _, neABonF _ _, neBConA _, neBConF _ _, neAConA _, neAConF _ _, neCDonA _, neCDonF _ _, eqA0onA _,
    eqA0onF _ _, eqB0onA _, eqB0onF _ _, eqC0onA _, eqC0onF _ _, eqD0onA _, eqD0onF _ _, neA0onA _, neA0onF _ _,
    neB0onA _, neB0onF _ _, neC0onA _, neC0onF _ _, neD0onA _, neD0onF _ _, gtABonA _, gtABonF _ _, gtBConA _,
    gtBConF _ _, gtCAonA _, gtCAonF _ _, gtDConA _, gtDConF _ _, ltABonA _, ltABonF _ _, ltBConA _, ltBConF _ _,
    ltCAonA _, ltCAonF _ _, ltDConA _, ltDConF _ _, geABonA _, geABonF _ _, geBConA _, geBConF _ _, geCAonA _,
    geCAonF _ _, geDConA _, geDConF _ _, leABonA _, leABonF _ _, leBConA _, leBConF _ _, leCAonA _, leCAonF _ _,
    leDConA _, leDConF _ _, golong _, govlng _, gosubl _, gosbvl _, goyes _, rtnyes]

/-- An operand as wide as the nibbles it is read from keeps all of them. -/
theorem nibblesLE_ofNat_leValue (l : List Nibble) :
    nibblesLE l.length (BitVec.ofNat (4 * l.length) (leValue l)).toNat = l := by
  have hlt : leValue l < 2 ^ (4 * l.length) := by
    rw [Nat.pow_mul]
    exact leValue_lt l
  rw [BitVec.toNat_ofNat, Nat.mod_eq_of_lt hlt, nibblesLE_leValue]

/-- The offset 00 is the only one whose two nibbles are both 0 (R98). -/
theorem nibbles_of_zero_offset {y0 y1 : Nibble} (h : BitVec.ofNat 8 (leValue [y0, y1]) = 0#8) :
    [y0, y1] = [0#4, 0#4] := by
  have hback := nibblesLE_ofNat_leValue [y0, y1]
  calc [y0, y1] = nibblesLE 2 (BitVec.ofNat 8 (leValue [y0, y1])).toNat := hback.symm
    _ = [0#4, 0#4] := by rw [h]; rfl

theorem suffixOf_wf (y0 y1 : Nibble) : (suffixOf y0 y1).wf = true := by
  unfold suffixOf
  split
  · rfl
  · next hne => exact decide_eq_true hne

theorem encodeSuffix_suffixOf (y0 y1 : Nibble) : encodeSuffix (suffixOf y0 y1) = [y0, y1] := by
  unfold suffixOf
  split
  · next hzero => exact (nibbles_of_zero_offset hzero).symm
  · exact nibblesLE_ofNat_leValue [y0, y1]

/-- Case split on the digit that a nibble is. -/
theorem nibble_cases {P : Nibble → Prop} (d0 : P 0#4) (d1 : P 1#4) (d2 : P 2#4) (d3 : P 3#4) (d4 : P 4#4) (d5 : P 5#4)
    (d6 : P 6#4) (d7 : P 7#4) (d8 : P 8#4) (d9 : P 9#4) (dA : P 10#4) (dB : P 11#4) (dC : P 12#4) (dD : P 13#4)
    (dE : P 14#4) (dF : P 15#4) (n : Nibble) : P n := by
  obtain ⟨⟨k, hk⟩⟩ := n
  interval_cases k
  exacts [d0, d1, d2, d3, d4, d5, d6, d7, d8, d9, dA, dB, dC, dD, dE, dF]

/-! ## The register tests of table "tests" (R97) -/

theorem equalityTestOnA_wf (t : Nibble) (y : Suffix) : (equalityTestOnA t y).wf = y.wf := by
  induction t using nibble_cases <;> rfl

theorem encode_equalityTestOnA (t : Nibble) (y : Suffix) :
    encode (equalityTestOnA t y) = [8#4, 10#4, t] ++ encodeSuffix y := by
  induction t using nibble_cases <;> rfl

theorem orderTestOnA_wf (t : Nibble) (y : Suffix) : (orderTestOnA t y).wf = y.wf := by
  induction t using nibble_cases <;> rfl

theorem encode_orderTestOnA (t : Nibble) (y : Suffix) :
    encode (orderTestOnA t y) = [8#4, 11#4, t] ++ encodeSuffix y := by
  induction t using nibble_cases <;> rfl

theorem equalityTestOnF_wf (t : Nibble) (f : Field) (y : Suffix) :
    (equalityTestOnF t f y).wf = (f.hasCode && y.wf) := by
  induction t using nibble_cases <;> rfl

theorem encode_equalityTestOnF (t : Nibble) (f : Field) (y : Suffix) :
    encode (equalityTestOnF t f y) = [9#4, BitVec.ofNat 4 (codeOfField f), t] ++ encodeSuffix y := by
  induction t using nibble_cases <;> rfl

theorem orderTestOnF_wf (t : Nibble) (f : Field) (y : Suffix) :
    (orderTestOnF t f y).wf = (f.hasCode && y.wf) := by
  induction t using nibble_cases <;> rfl

theorem encode_orderTestOnF (t : Nibble) (f : Field) (y : Suffix) :
    encode (orderTestOnF t f y) = [9#4, BitVec.ofNat 4 (codeOfField f + 8), t] ++ encodeSuffix y := by
  induction t using nibble_cases <;> rfl

/-! ## Reading back, and the rules of the decoder's building blocks -/

/-- After the nibbles `pre`, what the sub-decoder `d` answers is well-formed, and its encoding is `pre` and the nibbles `d`
has read. -/
def ReadsBack (pre : List Nibble) (d : List Nibble → Decoded) : Prop :=
  ∀ (r : List Nibble) (i : Instr), d r = .ok i → i.wf = true ∧ encode i <+: pre ++ r

namespace ReadsBack

variable {pre : List Nibble}

/-- A decoder that reads a nibble reads back if, for each nibble, what it does next does. -/
theorem cons {d : List Nibble → Decoded} (short : d [] = .short)
    (next : ∀ n, ReadsBack (pre ++ [n]) (fun r => d (n :: r))) : ReadsBack pre d := by
  intro r i h
  cases r with
  | nil =>
    rw [short] at h
    nomatch h
  | cons n r => simpa using next n r i h

/-- A row of the opcode map all of whose nibbles have been read. -/
theorem ok {i : Instr} (hwf : i.wf = true) (henc : encode i = pre) : ReadsBack pre (fun _ => .ok i) := by
  rintro r _ ⟨⟩
  exact ⟨hwf, henc ▸ List.prefix_append (encode i) r⟩

theorem unlisted {l : List Nibble} : ReadsBack pre (fun _ => .unlisted l) :=
  fun _ _ h => nomatch h

/-- A row that only HS_MASK_GENERAL admits (R100). -/
theorem admitted {d : List Nibble → Decoded} {l : List Nibble} (hs : Bool) (h : ReadsBack pre d) :
    ReadsBack pre (fun r => if hs then d r else .unlisted l) := by
  cases hs with
  | true => exact h
  | false => exact unlisted

theorem test {mk : Suffix → Instr} (hwf : ∀ y, (mk y).wf = y.wf)
    (henc : ∀ y, encode (mk y) = pre ++ encodeSuffix y) : ReadsBack pre (decodeTest mk) :=
  cons rfl fun y0 => cons rfl fun y1 =>
    ok ((hwf _).trans (suffixOf_wf y0 y1)) (by simp [henc, encodeSuffix_suffixOf])

theorem digit {mk : Nibble → Instr} (hwf : ∀ n, (mk n).wf = true) (henc : ∀ n, encode (mk n) = pre ++ [n]) :
    ReadsBack pre (decodeDigit mk) :=
  cons rfl fun n => ok (hwf n) (henc n)

theorem digitTest {mk : Nibble → Suffix → Instr} (hwf : ∀ n y, (mk n y).wf = y.wf)
    (henc : ∀ n y, encode (mk n y) = pre ++ [n] ++ encodeSuffix y) : ReadsBack pre (decodeDigitTest mk) :=
  cons rfl fun n => test (hwf n) (henc n)

theorem testOnA {group : Nibble → Suffix → Instr} (hwf : ∀ t y, (group t y).wf = y.wf)
    (henc : ∀ t y, encode (group t y) = pre ++ [t] ++ encodeSuffix y) : ReadsBack pre (decodeTestOnA group) :=
  cons rfl fun t => test (hwf t) (henc t)

/-- A row whose last nibbles `l` are an operand as wide as they are. -/
theorem operand {i : Instr} (l : List Nibble) {pre' : List Nibble} (hpre : pre' = pre ++ l) (hwf : i.wf = true)
    (henc : encode i = pre ++ nibblesLE l.length (BitVec.ofNat (4 * l.length) (leValue l)).toNat) :
    ReadsBack pre' (fun _ => .ok i) :=
  ok hwf (by rw [henc, nibblesLE_ofNat_leValue, hpre])

/-- Two nibbles of offset; the offset 00 is the encoding of a return (R98). -/
theorem off8 {mk : BitVec 8 → Instr} {zero : Instr} (hwf : ∀ off, off ≠ 0#8 → (mk off).wf = true)
    (henc : ∀ off, encode (mk off) = pre ++ nibblesLE 2 off.toNat) (hwf0 : zero.wf = true)
    (henc0 : encode zero = pre ++ [0#4, 0#4]) : ReadsBack pre (decodeOff8 mk zero) := by
  refine cons rfl fun n1 => cons rfl fun n2 => ?_
  by_cases h : BitVec.ofNat 8 (leValue [n1, n2]) = 0#8
  · simp only [decodeOff8, if_pos h]
    exact ok hwf0 (by rw [henc0, ← nibbles_of_zero_offset h, List.append_assoc, List.singleton_append])
  · simp only [decodeOff8, if_neg h]
    exact operand [n1, n2] (by simp) (hwf _ h) (henc _)

theorem off12 {mk : BitVec 12 → Instr} (hwf : ∀ off, (mk off).wf = true)
    (henc : ∀ off, encode (mk off) = pre ++ nibblesLE 3 off.toNat) : ReadsBack pre (decodeOff12 mk) :=
  cons rfl fun n1 => cons rfl fun n2 => cons rfl fun n3 =>
    operand [n1, n2, n3] (by simp) (hwf _) (henc _)

theorem off16 {mk : BitVec 16 → Instr} (hwf : ∀ off, (mk off).wf = true)
    (henc : ∀ off, encode (mk off) = pre ++ nibblesLE 4 off.toNat) : ReadsBack pre (decodeOff16 mk) :=
  cons rfl fun n2 => cons rfl fun n3 => cons rfl fun n4 => cons rfl fun n5 =>
    operand [n2, n3, n4, n5] (by simp) (hwf _) (henc _)

theorem addr {mk : Addr → Instr} (hwf : ∀ a, (mk a).wf = true)
    (henc : ∀ a, encode (mk a) = pre ++ nibblesLE 5 a.toNat) : ReadsBack pre (decodeAddr mk) :=
  cons rfl fun n2 => cons rfl fun n3 => cons rfl fun n4 => cons rfl fun n5 => cons rfl fun n6 =>
    operand [n2, n3, n4, n5, n6] (by simp) (hwf _) (henc _)

end ReadsBack

/-! ## The tables of the opcode map, innermost first (30_encoding.md section 3) -/

open ReadsBack

theorem decode0_readsBack : ReadsBack [0#4] decode0 := by
  refine cons rfl fun n => ?_
  induction n using nibble_cases with
  | d4 | d5 | d6 | d7 | dE => exact unlisted
  | _ => exact ok rfl rfl

theorem decode808_readsBack : ReadsBack [8#4, 0#4, 8#4] decode808 := by
  refine cons rfl fun n => ?_
  induction n using nibble_cases with
  | d4 | d5 | d8 | d9 => exact digit (fun _ => rfl) (fun _ => rfl)
  | d6 | d7 | dA | dB => exact digitTest (fun _ _ => rfl) (fun _ _ => rfl)
  | dC | dE => exact ok rfl rfl
  | _ => exact unlisted

theorem decode80_readsBack : ReadsBack [8#4, 0#4] decode80 := by
  refine cons rfl fun n => ?_
  induction n using nibble_cases with
  | d8 => exact decode808_readsBack
  | d9 => exact ok rfl rfl
  | dC | dD | dF => exact digit (fun _ => rfl) (fun _ => rfl)
  | _ => exact unlisted

theorem decode81_readsBack : ReadsBack [8#4, 1#4] decode81 := by
  refine cons rfl fun n => cons rfl fun m => ?_
  induction n using nibble_cases with
  | dB =>
    induction m using nibble_cases with
    | d2 | d3 | d6 | d7 => exact ok rfl rfl
    | _ => exact unlisted
  | _ => exact unlisted

theorem decode82_readsBack (hs : Bool) : ReadsBack [8#4, 2#4] (decode82 hs) := by
  refine cons rfl fun n => ?_
  induction n using nibble_cases with
  | d1 | d2 | d4 | d8 | dF => exact ok rfl rfl
  | _ => exact admitted hs (ok rfl rfl)

theorem decode83_readsBack (hs : Bool) : ReadsBack [8#4, 3#4] (decode83 hs) := by
  refine cons rfl fun n => ?_
  induction n using nibble_cases with
  | d1 | d2 | d4 | d8 => exact test (fun _ => rfl) (fun _ => rfl)
  | _ => exact admitted hs (test (fun _ => rfl) (fun _ => rfl))

theorem decode8_readsBack (hs : Bool) : ReadsBack [8#4] (decode8 hs) := by
  refine cons rfl fun n => ?_
  induction n using nibble_cases with
  | d0 => exact decode80_readsBack
  | d1 => exact decode81_readsBack
  | d2 => exact decode82_readsBack hs
  | d3 => exact decode83_readsBack hs
  | d4 | d5 => exact digit (fun _ => rfl) (fun _ => rfl)
  | d6 | d7 | d8 | d9 => exact digitTest (fun _ _ => rfl) (fun _ _ => rfl)
  | dA => exact testOnA equalityTestOnA_wf encode_equalityTestOnA
  | dB => exact testOnA orderTestOnA_wf encode_orderTestOnA
  | dC | dE => exact off16 (fun _ => rfl) (fun _ => rfl)
  | dD | dF => exact addr (fun _ => rfl) (fun _ => rfl)

/-- Bit 3 of the second nibble chooses the group, the others the field (R96): codes 0 to 7 and 8 to F. -/
theorem decode9_readsBack : ReadsBack [9#4] decode9 := by
  refine cons rfl fun c => cons rfl fun t => ?_
  induction c using nibble_cases with
  | d0 | d1 | d2 | d3 | d4 | d5 | d6 | d7 =>
    exact test (equalityTestOnF_wf t _) (encode_equalityTestOnF t _)
  | _ => exact test (orderTestOnF_wf t _) (encode_orderTestOnF t _)

theorem decode_readsBack (hs : Bool) : ReadsBack [] (decode hs) := by
  refine cons rfl fun n => ?_
  induction n using nibble_cases with
  | d0 => exact decode0_readsBack
  | d2 => exact digit (fun _ => rfl) (fun _ => rfl)
  | d4 | d5 => exact off8 (fun _ hne => decide_eq_true hne) (fun _ => rfl) rfl rfl
  | d6 | d7 => exact off12 (fun _ => rfl) (fun _ => rfl)
  | d8 => exact decode8_readsBack hs
  | d9 => exact decode9_readsBack
  | _ => exact unlisted

/-- Settles O2: read from its first nibble on, the decoder reads back, and what the string begins with are its first nibbles. -/
theorem decodedInstructionIsTheOneEncoded : Obligations.DecodedInstructionIsTheOneEncoded := by
  intro hs ns i h
  obtain ⟨hwf, hbegins⟩ : i.wf = true ∧ encode i <+: ns := decode_readsBack hs ns i h
  rw [← encode_length i]
  exact ⟨hwf, hbegins.length_le, List.prefix_iff_eq_take.mp hbegins⟩

end Sys2Proof.ReadBack
end

section
/-!
PROOF. The returns of 41_subroutines.md (R154 to R156, R159, R160). The model's operations are first tied to the vocabulary of
the statements; each return's meaning is then its arm of the dispatch, rewritten by those lemmas.
-/

namespace Sys2Proof.Returns
open Sys2Proof Sys2Proof.Machine Sys2Proof.Claims

/-! ## The model's operations in the vocabulary of the statements -/

/-- The model adds words and the statements add numbers modulo 2^20 (R10, R66). -/
theorem addrPlus_eq_after (pc : Addr) (k : Nat) : addrPlus pc k = after pc k := by
  simp [addrPlus, after, BitVec.ofNat_add]

theorem popStk_eq_popped (k : RStk) : popStk k = popped k := rfl

theorem advance_eq_after (s : State) (k : Nat) : s.advance k = { s with pc := after s.pc k } := by
  rw [← addrPlus_eq_after]
  rfl

theorem returnTo_eq_returned (s : State) : returnTo s = returned s := by
  rw [returnTo_eq, popStk_eq_popped, returned]

/-- CARRY has no part in where a return goes: it may be written before or after the return (R155, R156). -/
theorem returnTo_setCarry (s : State) (v : Bool) : returnTo (s.setCarry v) = { returned s with carry := v } := by
  rw [returnTo_eq_returned]
  rfl

/-- Nibbles that decode to the instruction they encode are its encoding; that they are as many as its length is
`encode_length`. -/
theorem encodedAs_of_decode {i : Instr} {ns : List Nibble} (henc : encode i = ns)
    (hdec : ∀ hs rest, decode hs (ns ++ rest) = .ok i) : encodedAs i ns :=
  ⟨henc, by rw [← henc, ReadBack.encode_length], hdec⟩

/-! ## What each return does -/

theorem exec_rtn (s : State) : exec .rtn s = .next (returned s) :=
  calc exec .rtn s = .next (returnTo s) := rfl
    _ = .next (returned s) := by rw [returnTo_eq_returned]

theorem exec_rtnsc (s : State) : exec .rtnsc s = .next { returned s with carry := true } :=
  calc exec .rtnsc s = .next (returnTo (s.setCarry true)) := rfl
    _ = .next { returned s with carry := true } := by rw [returnTo_setCarry]

theorem exec_rtncc (s : State) : exec .rtncc s = .next { returned s with carry := false } :=
  calc exec .rtncc s = .next (returnTo (s.setCarry false)) := rfl
    _ = .next { returned s with carry := false } := by rw [returnTo_setCarry]

theorem exec_rtnc (s : State) :
    exec .rtnc s = .next (if s.carry = true then returned s else { s with pc := after s.pc 3 }) :=
  calc exec .rtnc s = .next (if s.carry = true then returnTo s else s.advance 3) := rfl
    _ = .next (if s.carry = true then returned s else { s with pc := after s.pc 3 }) := by
      rw [returnTo_eq_returned, advance_eq_after]

theorem exec_rtnnc (s : State) :
    exec .rtnnc s = .next (if s.carry = true then { s with pc := after s.pc 3 } else returned s) :=
  calc exec .rtnnc s = .next (if s.carry = true then s.advance 3 else returnTo s) := rfl
    _ = .next (if s.carry = true then { s with pc := after s.pc 3 } else returned s) := by
      rw [returnTo_eq_returned, advance_eq_after]

/-! ## The obligations -/

/-- Settles O32: the next state is `exec_rtn`; encoding, level and cycles are the rows of the model's tables. -/
theorem rtnPopsThePc : Obligations.RtnPopsThePc := by
  have encoding : encodedAs .rtn [0#4, 1#4] := encodedAs_of_decode rfl fun _ _ => rfl
  have cost : levelZeroTaking .rtn 9 := ⟨rfl, fun _ => rfl⟩
  exact ⟨encoding, cost, exec_rtn⟩

/-- Settles O33: the next state is `exec_rtnsc`, the return with CARRY written before it. -/
theorem rtnscReturnsAndSetsTheCarry : Obligations.RtnscReturnsAndSetsTheCarry := by
  have encoding : encodedAs .rtnsc [0#4, 2#4] := encodedAs_of_decode rfl fun _ _ => rfl
  have cost : levelZeroTaking .rtnsc 9 := ⟨rfl, fun _ => rfl⟩
  exact ⟨encoding, cost, exec_rtnsc⟩

/-- Settles O34: the next state is `exec_rtncc`, the return with CARRY written before it. -/
theorem rtnccReturnsAndClearsTheCarry : Obligations.RtnccReturnsAndClearsTheCarry := by
  have encoding : encodedAs .rtncc [0#4, 3#4] := encodedAs_of_decode rfl fun _ _ => rfl
  have cost : levelZeroTaking .rtncc 9 := ⟨rfl, fun _ => rfl⟩
  exact ⟨encoding, cost, exec_rtncc⟩

/-- Settles O36: each reads CARRY once, to choose between the return and PC + 3 (`exec_rtnc`, `exec_rtnnc`); the decoder gives
the offset 00 of the conditional jumps to these two rows (R98). -/
theorem conditionalReturnsReadTheCarry : Obligations.ConditionalReturnsReadTheCarry := by
  have encodingC : encodedAs .rtnc [4#4, 0#4, 0#4] := encodedAs_of_decode rfl fun _ _ => rfl
  have encodingNc : encodedAs .rtnnc [5#4, 0#4, 0#4] := encodedAs_of_decode rfl fun _ _ => rfl
  refine ⟨encodingC, encodingNc, rfl, rfl, fun s => ?_⟩
  have costC : cycles .rtnc s = some (if s.carry = true then 10 else 3) := rfl
  have costNc : cycles .rtnnc s = some (if s.carry = true then 3 else 10) := rfl
  exact ⟨exec_rtnc s, exec_rtnnc s, costC, costNc⟩

end Sys2Proof.Returns
end

section
/-!
PROOF. The instructions that move a digit into the pointer or between it and a nibble of C (44_pointer.md R231, R235 to R237).
The model reads and writes a nibble as a word and the statements as a number, a slice of one digit: the first part ties the
two. Each instruction's meaning is then its arm of the dispatch: what it writes, and then the PC moved past it.
-/

namespace Sys2Proof.Pointer
open Sys2Proof Sys2Proof.Machine Sys2Proof.Claims Sys2Proof.Returns

/-! ## One nibble of a register -/

theorem slice_self_eq_getNibs (x : Reg64) (j : Nat) : slice x j j = (getNibs x j 1).toNat := by
  simp [slice, getNibs_toNat]

theorem ofNat_slice_eq_getNib (x : Reg64) (n : Nibble) : BitVec.ofNat 4 (slice x n.toNat n.toNat) = getNib x n := by
  rw [slice_self_eq_getNibs]
  exact (BitVec.ofNat_toNat 4 _).trans (BitVec.setWidth_eq (getNib x n))

theorem getNib_setNib (x : Reg64) (n v : Nibble) : getNib (setNib x n v) n = v :=
  getNibs_setNibs_same x n.toNat 1 v (by omega)

/-- The nibble written is the operand's, and the other fifteen are unchanged (R235, R237). -/
theorem slice_setNib (x : Reg64) (n v : Nibble) {j : Nat} (hj : j < 16) :
    slice (setNib x n v) j j = if j = n.toNat then v.toNat else slice x j j := by
  split
  · next heq =>
    subst heq
    rw [slice_self_eq_getNibs]
    exact congrArg BitVec.toNat (getNib_setNib x n v)
  · next hne =>
    rw [slice_self_eq_getNibs, slice_self_eq_getNibs]
    exact congrArg BitVec.toNat (getNibs_setNibs_other x n.toNat 1 j 1 v (by omega) (by omega))

/-- What a write of a nibble has changed, writing the old nibble back restores. -/
theorem setNib_setNib_getNib (x : Reg64) (n v : Nibble) : setNib (setNib x n v) n (getNib x n) = x := by
  apply BitVec.eq_of_getLsbD_eq
  intro j hj
  simp only [setNib, setNibs_getLsbD _ _ _ _ j hj]
  split
  · next hin =>
    have hbit : 4 * n.toNat + (j - 4 * n.toNat) = j := by omega
    have hlt : j - 4 * n.toNat < 4 := by omega
    simp [getNib, getNibs, hbit, hlt]
  · rfl

theorem after_after (pc : Addr) (k l : Nat) : after (after pc k) l = after pc (k + l) := by
  simp [← addrPlus_eq_after, addrPlus, BitVec.ofNat_add, BitVec.add_assoc]

/-! ## What each instruction does -/

theorem exec_pSet (n : Nibble) (s : State) : exec (.pSet n) s = .next { s with p := n, pc := after s.pc 2 } :=
  congrArg Host.Outcome.next (advance_eq_after (s.setP n) 2)

theorem exec_pFromC (n : Nibble) (s : State) :
    exec (.pFromC n) s = .next { s with p := getNib s.c n, pc := after s.pc 4 } :=
  congrArg Host.Outcome.next (advance_eq_after (s.setP (getNib s.c n)) 4)

theorem exec_cFromP (n : Nibble) (s : State) :
    exec (.cFromP n) s = .next { s with c := setNib s.c n s.p, pc := after s.pc 4 } :=
  congrArg Host.Outcome.next (advance_eq_after (s.setC (setNib s.c n s.p)) 4)

theorem exec_cpex (n : Nibble) (s : State) :
    exec (.cpex n) s = .next { s with c := setNib s.c n s.p, p := getNib s.c n, pc := after s.pc 4 } :=
  congrArg Host.Outcome.next (advance_eq_after ((s.setC (setNib s.c n s.p)).setP (getNib s.c n)) 4)

/-- The second CPEX finds P's old digit in the nibble and the nibble's old digit in P. -/
theorem exec_cpex_twice (n : Nibble) (s : State) :
    exec (.cpex n) { s with c := setNib s.c n s.p, p := getNib s.c n, pc := after s.pc 4 } =
      .next { s with pc := after s.pc 8 } := by
  rw [exec_cpex]
  simp only [setNib_setNib_getNib, getNib_setNib, after_after]

/-! ## The obligations -/

/-- Settles O50: the next state is `exec_pSet`; encoding, level and cycles are the rows of the model's tables. -/
theorem pSetPutsTheDigitInP : Obligations.PSetPutsTheDigitInP := by
  intro n
  have encoding : encodedAs (.pSet n) [2#4, n] := encodedAs_of_decode rfl fun _ _ => rfl
  have cost : levelZeroTaking (.pSet n) 2 := ⟨rfl, fun _ => rfl⟩
  exact ⟨encoding, cost, exec_pSet n⟩

/-- Settles O53: the new C is the old one with P written to nibble n, which a second CPEX undoes (`exec_cpex_twice`). -/
theorem cpexExchangesPAndOneNibble : Obligations.CpexExchangesPAndOneNibble := by
  intro n
  have encoding : encodedAs (.cpex n) [8#4, 0#4, 15#4, n] := encodedAs_of_decode rfl fun _ _ => rfl
  have cost : levelZeroTaking (.cpex n) 6 := ⟨rfl, fun _ => rfl⟩
  refine ⟨encoding, cost, fun s => ⟨setNib s.c n s.p, ?_⟩⟩
  rw [ofNat_slice_eq_getNib]
  exact ⟨exec_cpex n s, fun _ hj => slice_setNib s.c n s.p hj, exec_cpex_twice n s⟩

/-- Settles O54: each is one half of the exchange, P=C n the read of nibble n and C=P n the write of it. -/
theorem pFromCAndCFromPCopyOneNibble : Obligations.PFromCAndCFromPCopyOneNibble := by
  intro n
  have encodingP : encodedAs (.pFromC n) [8#4, 0#4, 13#4, n] := encodedAs_of_decode rfl fun _ _ => rfl
  have costP : levelZeroTaking (.pFromC n) 6 := ⟨rfl, fun _ => rfl⟩
  have encodingC : encodedAs (.cFromP n) [8#4, 0#4, 12#4, n] := encodedAs_of_decode rfl fun _ _ => rfl
  have costC : levelZeroTaking (.cFromP n) 6 := ⟨rfl, fun _ => rfl⟩
  refine ⟨encodingP, costP, encodingC, costC, fun s => ?_, fun s => ⟨setNib s.c n s.p, ?_⟩⟩
  · rw [ofNat_slice_eq_getNib]
    exact exec_pFromC n s
  · exact ⟨exec_cFromP n s, fun _ hj => slice_setNib s.c n s.p hj⟩

end Sys2Proof.Pointer
end

section
/-!
PROOF. The instructions that only clear status bits (46_status.md R255 to R260). Each writes a word that the model computes
whole, ST with a new ST{R} or HST under a mask: the first part says what every bit of such a word is. Each instruction's
meaning is then its arm of the dispatch: the word written, and the PC moved past the instruction.
-/

namespace Sys2Proof.StatusClears
open Sys2Proof Sys2Proof.Machine Sys2Proof.Claims Sys2Proof.Returns

/-! ## The bits of a written ST and of a masked HST -/

/-- Flags B to 0 are those of the new ST{R}, flags F to C the old ones (R254). -/
theorem setStR_getLsbD (st : BitVec 16) (v : BitVec 12) {j : Nat} (hj : j < 16) :
    (setStR st v).getLsbD j = if j < 12 then v.getLsbD j else st.getLsbD j := by
  rw [setStR, BitVec.getLsbD_append]
  split
  · rfl
  · next hhigh =>
    have hwidth : j - 12 < 4 := by omega
    have hshift : 12 + (j - 12) = j := by omega
    rw [BitVec.getLsbD_extractLsb', hshift, decide_eq_true hwidth, Bool.true_and]

theorem clearMask_getLsbD (hst n : Nibble) {j : Nat} (hj : j < 4) :
    (clearMask hst n).getLsbD j = (hst.getLsbD j && !n.getLsbD j) := by
  simp [clearMask, hj]

/-- CLRHS is the clear whose mask selects all four bits (R260). -/
theorem clearMask_all (hst : Nibble) : clearMask hst 15#4 = 0#4 := by
  have hall : ~~~(15#4) = 0#4 := rfl
  rw [clearMask, hall, BitVec.and_zero]

/-! ## What each instruction does -/

theorem exec_clrst (s : State) :
    exec .clrst s = .next { s with st := setStR s.st 0#12, pc := after s.pc 2 } :=
  congrArg Host.Outcome.next (advance_eq_after (s.setSt (setStR s.st 0#12)) 2)

/-- An instruction that puts HST under a mask and moves past its three nibbles clears the bits that the mask selects. -/
theorem clearsHstBits_of_mask {i : Instr} {sel : Nat → Bool} (n : Nibble)
    (hexec : ∀ s, exec i s = .next ((s.setHst (clearMask s.hst n)).advance 3))
    (hsel : ∀ j < 4, n.getLsbD j = sel j) : clearsHstBits i 3 sel := by
  intro s
  refine ⟨clearMask s.hst n, ?_, fun j hj => ?_⟩
  · rw [hexec, advance_eq_after]
    rfl
  · rw [clearMask_getLsbD s.hst n hj, hsel j hj]

theorem xm0_clears : clearsHstBits .xm0 3 (fun j => decide (j = 0)) :=
  clearsHstBits_of_mask xmMask (fun _ => rfl) (by decide)

theorem sb0_clears : clearsHstBits .sb0 3 (fun j => decide (j = 1)) :=
  clearsHstBits_of_mask sbMask (fun _ => rfl) (by decide)

theorem sr0_clears : clearsHstBits .sr0 3 (fun j => decide (j = 2)) :=
  clearsHstBits_of_mask srMask (fun _ => rfl) (by decide)

theorem mp0_clears : clearsHstBits .mp0 3 (fun j => decide (j = 3)) :=
  clearsHstBits_of_mask mpMask (fun _ => rfl) (by decide)

theorem clrhs_clears : clearsHstBits .clrhs 3 (fun _ => true) :=
  clearsHstBits_of_mask 15#4
    (fun s =>
      calc exec .clrhs s = .next ((s.setHst 0#4).advance 3) := rfl
        _ = .next ((s.setHst (clearMask s.hst 15#4)).advance 3) := by rw [clearMask_all])
    (by decide)

/-! ## The obligations -/

/-- Settles O58: the new ST is the old one with ST{R} zero, read bit by bit (`setStR_getLsbD`). -/
theorem clrstClearsTwelveFlags : Obligations.ClrstClearsTwelveFlags := by
  have encoding : encodedAs .clrst [0#4, 8#4] := encodedAs_of_decode rfl fun _ _ => rfl
  have cost : levelZeroTaking .clrst 6 := ⟨rfl, fun _ => rfl⟩
  refine ⟨encoding, cost, fun s => ⟨setStR s.st 0#12, exec_clrst s, fun j hj => ?_⟩⟩
  rw [setStR_getLsbD s.st 0#12 hj, BitVec.getLsbD_zero]

/-- Settles O59: the five are one clear under five masks (`clearsHstBits_of_mask`); encodings, level and cycles are the rows of
the model's tables. -/
theorem namedHstClearsClearTheirBits : Obligations.NamedHstClearsClearTheirBits := by
  have encodingXm : encodedAs .xm0 [8#4, 2#4, 1#4] := encodedAs_of_decode rfl fun _ _ => rfl
  have encodingSb : encodedAs .sb0 [8#4, 2#4, 2#4] := encodedAs_of_decode rfl fun _ _ => rfl
  have encodingSr : encodedAs .sr0 [8#4, 2#4, 4#4] := encodedAs_of_decode rfl fun _ _ => rfl
  have encodingMp : encodedAs .mp0 [8#4, 2#4, 8#4] := encodedAs_of_decode rfl fun _ _ => rfl
  have encodingAll : encodedAs .clrhs [8#4, 2#4, 15#4] := encodedAs_of_decode rfl fun _ _ => rfl
  exact ⟨⟨encodingXm, ⟨rfl, fun _ => rfl⟩, xm0_clears⟩, ⟨encodingSb, ⟨rfl, fun _ => rfl⟩, sb0_clears⟩,
    ⟨encodingSr, ⟨rfl, fun _ => rfl⟩, sr0_clears⟩, ⟨encodingMp, ⟨rfl, fun _ => rfl⟩, mp0_clears⟩,
    encodingAll, ⟨rfl, fun _ => rfl⟩, clrhs_clears⟩

end Sys2Proof.StatusClears
end

section
/-!
PROOF. Decoding an encoding gives the instruction back (30_encoding.md R92 to R98, R105): each way of writing an operand is
undone by the decoder's way of reading it, and the rows of the opcode map choose between these. From it, the table words.
-/

namespace Sys2Proof.EncodeDecode
open Sys2Proof Sys2Proof.ReadBack

/-! ## Each operand is read as it was written -/

/-- An operand is as wide as its nibbles, so nothing of it is lost in them. -/
theorem ofNat_leValue_nibblesLE {k : Nat} (v : BitVec (4 * k)) :
    BitVec.ofNat (4 * k) (leValue (nibblesLE k v.toNat)) = v := by
  have hlt : v.toNat < 16 ^ k := by
    have hwidth := v.isLt
    rwa [Nat.pow_mul] at hwidth
  rw [leValue_nibblesLE, Nat.mod_eq_of_lt hlt, BitVec.ofNat_toNat, BitVec.setWidth_eq]

theorem decodeOff12_nibblesLE (mk : BitVec 12 → Instr) (off : BitVec 12) (rest : List Nibble) :
    decodeOff12 mk (nibblesLE 3 off.toNat ++ rest) = .ok (mk off) :=
  congrArg (fun v => Decoded.ok (mk v)) (ofNat_leValue_nibblesLE (k := 3) off)

theorem decodeOff16_nibblesLE (mk : BitVec 16 → Instr) (off : BitVec 16) (rest : List Nibble) :
    decodeOff16 mk (nibblesLE 4 off.toNat ++ rest) = .ok (mk off) :=
  congrArg (fun v => Decoded.ok (mk v)) (ofNat_leValue_nibblesLE (k := 4) off)

theorem decodeAddr_nibblesLE (mk : Addr → Instr) (addr : Addr) (rest : List Nibble) :
    decodeAddr mk (nibblesLE 5 addr.toNat ++ rest) = .ok (mk addr) :=
  congrArg (fun v => Decoded.ok (mk v)) (ofNat_leValue_nibblesLE (k := 5) addr)

/-- An offset that is not 00 is no return (R98). -/
theorem decodeOff8_nibblesLE (mk : BitVec 8 → Instr) (zero : Instr) {off : BitVec 8} (hne : off ≠ 0#8)
    (rest : List Nibble) : decodeOff8 mk zero (nibblesLE 2 off.toNat ++ rest) = .ok (mk off) := by
  have hread := ofNat_leValue_nibblesLE (k := 2) off
  calc decodeOff8 mk zero (nibblesLE 2 off.toNat ++ rest)
      = if BitVec.ofNat 8 (leValue (nibblesLE 2 off.toNat)) = 0#8 then .ok zero
        else .ok (mk (BitVec.ofNat 8 (leValue (nibblesLE 2 off.toNat)))) := rfl
    _ = .ok (mk off) := by rw [hread, if_neg hne]

/-- A well-formed suffix: GOYES with an offset that is not 00, or RTNYES, whose nibbles are 00 (R98). -/
theorem decodeTest_encodeSuffix (mk : Suffix → Instr) {y : Suffix} (hwf : y.wf = true) (rest : List Nibble) :
    decodeTest mk (encodeSuffix y ++ rest) = .ok (mk y) := by
  cases y with
  | rtnyes => rfl
  | goyes off =>
    have hne : off ≠ 0#8 := of_decide_eq_true hwf
    have hread := ofNat_leValue_nibblesLE (k := 2) off
    calc decodeTest mk (nibblesLE 2 off.toNat ++ rest)
        = .ok (mk (if BitVec.ofNat 8 (leValue (nibblesLE 2 off.toNat)) = 0#8 then .rtnyes
            else .goyes (BitVec.ofNat 8 (leValue (nibblesLE 2 off.toNat))))) := rfl
      _ = .ok (mk (.goyes off)) := by rw [hread, if_neg hne]

/-! ## The field codes and the masks -/

/-- Codes 0 to 7 of a field select the equality group (R96). -/
theorem decode9_equality {f : Field} (hf : f.hasCode = true) (t : Nibble) (r : List Nibble) :
    decode9 (BitVec.ofNat 4 (codeOfField f) :: t :: r) = decodeTest (equalityTestOnF t f) r := by
  cases f with
  | a => nomatch hf
  | _ => rfl

/-- The same codes plus 8 select the order group (R96). -/
theorem decode9_order {f : Field} (hf : f.hasCode = true) (t : Nibble) (r : List Nibble) :
    decode9 (BitVec.ofNat 4 (codeOfField f + 8) :: t :: r) = decodeTest (orderTestOnF t f) r := by
  cases f with
  | a => nomatch hf
  | _ => rfl

theorem decode82_general {n : Nibble} (hn : namedClear n = false) (r : List Nibble) :
    decode82 true (n :: r) = .ok (.hs0 n) := by
  induction n using nibble_cases with
  | d1 | d2 | d4 | d8 | dF => exact absurd hn (by decide)
  | _ => rfl

theorem decode83_general {n : Nibble} (hn : namedTest n = false) (r : List Nibble) :
    decode83 true (n :: r) = decodeTest (.tstHs0 n) r := by
  induction n using nibble_cases with
  | d1 | d2 | d4 | d8 => exact absurd hn (by decide)
  | _ => rfl

/-! ## The opcode map -/

theorem decode_encode (i : Instr) (rest : List Nibble) (hwf : i.wf = true) :
    decode true (encode i ++ rest) = .ok i := by
  cases i with
  | goc off => exact decodeOff8_nibblesLE .goc .rtnc (of_decide_eq_true hwf) rest
  | gonc off => exact decodeOff8_nibblesLE .gonc .rtnnc (of_decide_eq_true hwf) rest
  | goto off | gosub off => exact decodeOff12_nibblesLE _ off rest
  | golong off | gosubl off => exact decodeOff16_nibblesLE _ off rest
  | govlng addr | gosbvl addr => exact decodeAddr_nibblesLE _ addr rest
  | hs0 n => exact decode82_general (by simpa [Instr.wf] using hwf) rest
  | tstHs0 n y =>
    obtain ⟨hn, hy⟩ : namedTest n = false ∧ y.wf = true := by simpa [Instr.wf] using hwf
    exact (decode83_general hn _).trans (decodeTest_encodeSuffix _ hy rest)
  | eqABonF f y | eqBConF f y | eqAConF f y | eqCDonF f y | neABonF f y | neBConF f y | neAConF f y | neCDonF f y
  | eqA0onF f y | eqB0onF f y | eqC0onF f y | eqD0onF f y | neA0onF f y | neB0onF f y | neC0onF f y | neD0onF f y =>
    obtain ⟨hf, hy⟩ : f.hasCode = true ∧ y.wf = true := Bool.and_eq_true_iff.mp hwf
    exact (decode9_equality hf _ _).trans (decodeTest_encodeSuffix _ hy rest)
  | gtABonF f y | gtBConF f y | gtCAonF f y | gtDConF f y | ltABonF f y | ltBConF f y | ltCAonF f y | ltDConF f y
  | geABonF f y | geBConF f y | geCAonF f y | geDConF f y | leABonF f y | leBConF f y | leCAonF f y | leDConF f y =>
    obtain ⟨hf, hy⟩ : f.hasCode = true ∧ y.wf = true := Bool.and_eq_true_iff.mp hwf
    exact (decode9_order hf _ _).trans (decodeTest_encodeSuffix _ hy rest)
  | tstAbit0 _ y | tstAbit1 _ y | tstCbit0 _ y | tstCbit1 _ y | tstXm0 y | tstSb0 y | tstSr0 y | tstMp0 y | tstSt0 _ y
  | tstSt1 _ y | tstPNe _ y | tstPEq _ y | eqABonA y | eqBConA y | eqAConA y | eqCDonA y | neABonA y | neBConA y
  | neAConA y | neCDonA y | eqA0onA y | eqB0onA y | eqC0onA y | eqD0onA y | neA0onA y | neB0onA y | neC0onA y
  | neD0onA y | gtABonA y | gtBConA y | gtCAonA y | gtDConA y | ltABonA y | ltBConA y | ltCAonA y | ltDConA y
  | geABonA y | geBConA y | geCAonA y | geDConA y | leABonA y | leBConA y | leCAonA y | leDConA y =>
    exact decodeTest_encodeSuffix _ hwf rest
  | goyes _ | rtnyes => nomatch hwf
  | _ => rfl

/-- Settles O1: the rows of the opcode map, each with its operands read as they were written (`decode_encode`). -/
theorem decodeOfEncodeGivesTheInstruction : Obligations.DecodeOfEncodeGivesTheInstruction :=
  decode_encode

/-! ## Table words -/

theorem nibblesLE_add (a b v : Nat) : nibblesLE (a + b) v = nibblesLE a v ++ nibblesLE b (v / 16 ^ a) := by
  induction a generalizing v with
  | zero => simp [nibblesLE]
  | succ a ih =>
    rw [Nat.succ_add, nibblesLE, nibblesLE, ih, Nat.div_div_eq_div_mul, ← Nat.pow_succ', List.cons_append]

/-- Read at more digits than it has, a number gets zeros above its own. -/
theorem nibblesLE_leValue_append (l : List Nibble) (k : Nat) :
    nibblesLE (l.length + k) (leValue l) = l ++ nibblesLE k 0 := by
  rw [nibblesLE_add, nibblesLE_leValue, Nat.div_eq_of_lt (leValue_lt l)]

theorem length_le_seven (i : Instr) : i.length ≤ 7 := by
  cases i <;> exact Nat.le_of_ble_eq_true rfl

/-- The word of an instruction is its nibbles, then zeros (log entry 7). -/
theorem wordNibbles_leValue_encode {i : Instr} {nbits : Nat} (hbits : 4 * i.length ≤ nbits) :
    wordNibbles nbits (leValue (encode i)) = encode i ++ nibblesLE (7 - i.length) 0 := by
  have hfits : leValue (encode i) < 2 ^ nbits :=
    calc leValue (encode i) < 16 ^ i.length := encode_length i ▸ leValue_lt (encode i)
      _ = 2 ^ (4 * i.length) := (Nat.pow_mul 2 4 i.length).symm
      _ ≤ 2 ^ nbits := Nat.pow_le_pow_right (by omega) hbits
  have hlength : 7 = (encode i).length + (7 - i.length) := by
    have := length_le_seven i
    rw [encode_length]
    omega
  rw [wordNibbles, Nat.mod_eq_of_lt hfits]
  calc nibblesLE 7 (leValue (encode i))
      = nibblesLE ((encode i).length + (7 - i.length)) (leValue (encode i)) := by rw [← hlength]
    _ = encode i ++ nibblesLE (7 - i.length) 0 := nibblesLE_leValue_append (encode i) (7 - i.length)

/-- Settles O6: the word is the encoding and zeros, and the decoder does not read past an encoding (`decode_encode`). -/
theorem tableWordOfAnInstructionDecodesToIt : Obligations.TableWordOfAnInstructionDecodesToIt := by
  intro i nbits hwf hbits
  rw [decodeTableWord, wordNibbles_leValue_encode hbits, decode_encode i _ hwf]

end Sys2Proof.EncodeDecode
end

section
/-!
PROOF. Where the decoder answers no instruction (30_encoding.md R100, R102). One property, `Stops`, is carried down the opcode
map: a sub-decoder that calls a string unlisted names at least so many nibbles, and one that finds it short had less than so many.
-/

namespace Sys2Proof.DecoderStops
open Sys2Proof Sys2Proof.ReadBack Sys2Proof.Claims

/-- What the sub-decoder `d` calls unlisted has at least `named` nibbles, and what it finds short has less than `need`. -/
structure Stops (named need : Nat) (d : List Nibble → Decoded) : Prop where
  unlisted_length : ∀ r l, d r = .unlisted l → named ≤ l.length
  short_length : ∀ r, d r = .short → r.length < need

namespace Stops

variable {named need : Nat} {d : List Nibble → Decoded}

theorem ne_unlisted {l : List Nibble} (h : Stops named need d) (hl : l.length < named) (r : List Nibble) :
    d r ≠ .unlisted l :=
  fun hd => absurd (h.unlisted_length r l hd) (Nat.not_le_of_lt hl)

theorem mono {named' need' : Nat} (h : Stops named need d) (hnamed : named' ≤ named) (hneed : need ≤ need') :
    Stops named' need' d :=
  ⟨fun r l hd => hnamed.trans (h.unlisted_length r l hd), fun r hd => (h.short_length r hd).trans_le hneed⟩

theorem cons (short : d [] = .short) (next : ∀ n, Stops named need (fun r => d (n :: r))) :
    Stops named (need + 1) d where
  unlisted_length r l hd := by
    cases r with
    | nil =>
      rw [short] at hd
      nomatch hd
    | cons n r => exact (next n).unlisted_length r l hd
  short_length r hd := by
    cases r with
    | nil => exact Nat.succ_pos need
    | cons n r => exact Nat.succ_lt_succ ((next n).short_length r hd)

theorem ok {i : Instr} : Stops named need (fun _ => .ok i) :=
  ⟨fun _ _ => nofun, fun _ => nofun⟩

theorem unlisted {l : List Nibble} (hl : named ≤ l.length) : Stops named need (fun _ => .unlisted l) where
  unlisted_length := by
    rintro _ _ ⟨⟩
    exact hl
  short_length _ h := nomatch h

/-- A row that only HS_MASK_GENERAL admits (R100). -/
theorem admitted {l : List Nibble} (hs : Bool) (h : Stops named need d) (hl : named ≤ l.length) :
    Stops named need (fun r => if hs then d r else .unlisted l) := by
  cases hs with
  | true => exact h
  | false => exact unlisted hl

theorem digit {mk : Nibble → Instr} : Stops named 1 (decodeDigit mk) :=
  cons rfl fun _ => ok

theorem test {mk : Suffix → Instr} : Stops named 2 (decodeTest mk) :=
  cons rfl fun _ => cons rfl fun _ => ok

theorem digitTest {mk : Nibble → Suffix → Instr} : Stops named 3 (decodeDigitTest mk) :=
  cons rfl fun _ => test

theorem testOnA {group : Nibble → Suffix → Instr} : Stops named 3 (decodeTestOnA group) :=
  cons rfl fun _ => test

theorem off8 {mk : BitVec 8 → Instr} {zero : Instr} : Stops named 2 (decodeOff8 mk zero) := by
  refine cons rfl fun n1 => cons rfl fun n2 => ?_
  by_cases h : BitVec.ofNat 8 (leValue [n1, n2]) = 0#8
  · simp only [decodeOff8, if_pos h]
    exact ok
  · simp only [decodeOff8, if_neg h]
    exact ok

theorem off12 {mk : BitVec 12 → Instr} : Stops named 3 (decodeOff12 mk) :=
  cons rfl fun _ => cons rfl fun _ => cons rfl fun _ => ok

theorem off16 {mk : BitVec 16 → Instr} : Stops named 4 (decodeOff16 mk) :=
  cons rfl fun _ => cons rfl fun _ => cons rfl fun _ => cons rfl fun _ => ok

theorem addr {mk : Addr → Instr} : Stops named 5 (decodeAddr mk) :=
  cons rfl fun _ => cons rfl fun _ => cons rfl fun _ => cons rfl fun _ => cons rfl fun _ => ok

end Stops

/-! ## The tables of the opcode map, innermost first -/

open Stops

theorem decode0_stops : Stops 2 1 decode0 := by
  refine cons rfl fun n => ?_
  induction n using nibble_cases with
  | d4 | d5 | d6 | d7 | dE => exact unlisted (by decide)
  | _ => exact ok

theorem decode808_stops : Stops 4 4 decode808 := by
  refine cons rfl fun n => ?_
  induction n using nibble_cases with
  | d4 | d5 | d8 | d9 => exact digit.mono le_rfl (by decide)
  | d6 | d7 | dA | dB => exact digitTest
  | dC | dE => exact ok
  | _ => exact unlisted (by decide)

theorem decode80_stops : Stops 3 5 decode80 := by
  refine cons rfl fun n => ?_
  induction n using nibble_cases with
  | d8 => exact decode808_stops.mono (by decide) le_rfl
  | d9 => exact ok
  | dC | dD | dF => exact digit.mono le_rfl (by decide)
  | _ => exact unlisted (by decide)

theorem decode81_stops : Stops 4 2 decode81 := by
  refine cons rfl fun n => cons rfl fun m => ?_
  induction n using nibble_cases with
  | dB =>
    induction m using nibble_cases with
    | d2 | d3 | d6 | d7 => exact ok
    | _ => exact unlisted le_rfl
  | _ => exact unlisted le_rfl

theorem decode82_stops (hs : Bool) : Stops 3 1 (decode82 hs) := by
  refine cons rfl fun n => ?_
  induction n using nibble_cases with
  | d1 | d2 | d4 | d8 | dF => exact ok
  | _ => exact admitted hs ok (by decide)

theorem decode83_stops (hs : Bool) : Stops 3 3 (decode83 hs) := by
  refine cons rfl fun n => ?_
  induction n using nibble_cases with
  | d1 | d2 | d4 | d8 => exact test
  | _ => exact admitted hs test (by decide)

theorem decode8_stops (hs : Bool) : Stops 3 6 (decode8 hs) := by
  refine cons rfl fun n => ?_
  induction n using nibble_cases with
  | d0 => exact decode80_stops
  | d1 => exact decode81_stops.mono (by decide) (by decide)
  | d2 => exact (decode82_stops hs).mono le_rfl (by decide)
  | d3 => exact (decode83_stops hs).mono le_rfl (by decide)
  | d4 | d5 => exact digit.mono le_rfl (by decide)
  | d6 | d7 | d8 | d9 => exact digitTest.mono le_rfl (by decide)
  | dA | dB => exact testOnA.mono le_rfl (by decide)
  | dC | dE => exact off16.mono le_rfl (by decide)
  | dD | dF => exact addr

theorem decode9_stops {named : Nat} : Stops named 4 decode9 := by
  refine cons rfl fun c => cons rfl fun t => ?_
  induction c using nibble_cases with
  | _ => exact test

/-- No string of seven nibbles, the length of the longest instruction, is short (R90). -/
theorem decode_stops (hs : Bool) : Stops 1 7 (decode hs) := by
  refine cons rfl fun n => ?_
  induction n using nibble_cases with
  | d0 => exact decode0_stops.mono (by decide) (by decide)
  | d2 => exact digit.mono le_rfl (by decide)
  | d4 | d5 => exact off8.mono le_rfl (by decide)
  | d6 | d7 => exact off12.mono le_rfl (by decide)
  | d8 => exact (decode8_stops hs).mono (by decide) le_rfl
  | d9 => exact decode9_stops.mono le_rfl (by decide)
  | _ => exact unlisted (by decide)

/-! ## The unlisted encodings (R102) -/

theorem unlisted_first_iff (hs : Bool) (n : Nibble) (r : List Nibble) :
    decode hs (n :: r) = .unlisted [n] ↔ n = 1#4 ∨ n = 3#4 ∨ 10 ≤ n.toNat := by
  induction n using nibble_cases with
  | d0 => exact iff_of_false (decode0_stops.ne_unlisted (by decide) r) (by decide)
  | d2 => exact iff_of_false ((digit (named := 2)).ne_unlisted (by decide) r) (by decide)
  | d4 | d5 => exact iff_of_false ((off8 (named := 2)).ne_unlisted (by decide) r) (by decide)
  | d6 | d7 => exact iff_of_false ((off12 (named := 2)).ne_unlisted (by decide) r) (by decide)
  | d8 => exact iff_of_false ((decode8_stops hs).ne_unlisted (by decide) r) (by decide)
  | d9 => exact iff_of_false ((decode9_stops (named := 2)).ne_unlisted (by decide) r) (by decide)
  | _ => exact iff_of_true rfl (by decide)

theorem unlisted_after_0_iff (hs : Bool) (n : Nibble) (r : List Nibble) :
    decode hs (0#4 :: n :: r) = .unlisted [0#4, n] ↔ (4 ≤ n.toNat ∧ n.toNat ≤ 7) ∨ n = 14#4 := by
  induction n using nibble_cases with
  | d4 | d5 | d6 | d7 | dE => exact iff_of_true rfl (by decide)
  | _ => exact iff_of_false nofun (by decide)

theorem unlisted_after_80_iff (hs : Bool) (n : Nibble) (r : List Nibble) :
    decode hs (8#4 :: 0#4 :: n :: r) = .unlisted [8#4, 0#4, n] ↔
      n.toNat ≤ 7 ∨ n = 10#4 ∨ n = 11#4 ∨ n = 14#4 := by
  induction n using nibble_cases with
  | d8 => exact iff_of_false (decode808_stops.ne_unlisted (by decide) r) (by decide)
  | d9 => exact iff_of_false nofun (by decide)
  | dC | dD | dF => exact iff_of_false ((digit (named := 4)).ne_unlisted (by decide) r) (by decide)
  | _ => exact iff_of_true rfl (by decide)

theorem unlisted_after_808_iff (hs : Bool) (n : Nibble) (r : List Nibble) :
    decode hs (8#4 :: 0#4 :: 8#4 :: n :: r) = .unlisted [8#4, 0#4, 8#4, n] ↔
      n.toNat ≤ 3 ∨ n = 13#4 ∨ n = 15#4 := by
  induction n using nibble_cases with
  | d4 | d5 | d8 | d9 => exact iff_of_false ((digit (named := 5)).ne_unlisted (by decide) r) (by decide)
  | d6 | d7 | dA | dB => exact iff_of_false ((digitTest (named := 5)).ne_unlisted (by decide) r) (by decide)
  | dC | dE => exact iff_of_false nofun (by decide)
  | _ => exact iff_of_true rfl (by decide)

theorem unlisted_after_81_iff (hs : Bool) (n m : Nibble) (r : List Nibble) :
    decode hs (8#4 :: 1#4 :: n :: m :: r) = .unlisted [8#4, 1#4, n, m] ↔
      ¬ (n = 11#4 ∧ (m = 2#4 ∨ m = 3#4 ∨ m = 6#4 ∨ m = 7#4)) := by
  induction n using nibble_cases with
  | dB =>
    induction m using nibble_cases with
    | d2 | d3 | d6 | d7 => exact iff_of_false nofun (by decide)
    | _ => exact iff_of_true rfl (by decide)
  | _ => exact iff_of_true rfl (fun h => absurd h.1 (by decide))

/-- Settles O3: one table of the opcode map for each clause. -/
theorem unlistedEncodingsAreRefusedByTheDecoder : Obligations.UnlistedEncodingsAreRefusedByTheDecoder :=
  fun hs n m r => ⟨unlisted_first_iff hs n r, unlisted_after_0_iff hs n r, unlisted_after_80_iff hs n r,
    unlisted_after_808_iff hs n r, unlisted_after_81_iff hs n m r⟩

/-! ## The masks of a machine with HS_MASK_GENERAL false (R100) -/

theorem strict_82_unlisted_iff (n : Nibble) (r : List Nibble) :
    decode false (8#4 :: 2#4 :: n :: r) = .unlisted [8#4, 2#4, n] ↔ ¬ listedClear n := by
  unfold listedClear
  induction n using nibble_cases with
  | d1 | d2 | d4 | d8 | dF => exact iff_of_false nofun (by decide)
  | _ => exact iff_of_true rfl (by decide)

theorem strict_83_unlisted_iff (n : Nibble) (r : List Nibble) :
    decode false (8#4 :: 3#4 :: n :: r) = .unlisted [8#4, 3#4, n] ↔ ¬ listedTest n := by
  unfold listedTest
  induction n using nibble_cases with
  | d1 | d2 | d4 | d8 => exact iff_of_false ((test (named := 4)).ne_unlisted (by decide) r) (by decide)
  | _ => exact iff_of_true rfl (by decide)

theorem decode82_listed {n : Nibble} (hn : listedClear n) (hs : Bool) (r : List Nibble) :
    decode82 hs (n :: r) = decode82 true (n :: r) := by
  obtain rfl | rfl | rfl | rfl | rfl := hn <;> rfl

theorem decode83_listed {n : Nibble} (hn : listedTest n) (hs : Bool) (r : List Nibble) :
    decode83 hs (n :: r) = decode83 true (n :: r) := by
  obtain rfl | rfl | rfl | rfl := hn <;> rfl

/-- Only `82n` and `83n` look at the parameter. -/
theorem decode8_hsMask (hs : Bool) (r : List Nibble) (hclear : ∀ m q, r = 2#4 :: m :: q → listedClear m)
    (htest : ∀ m q, r = 3#4 :: m :: q → listedTest m) : decode8 hs r = decode8 true r := by
  match r with
  | [] => rfl
  | n1 :: r =>
    induction n1 using nibble_cases with
    | d2 =>
      match r with
      | [] => rfl
      | m :: q => exact decode82_listed (hclear m q rfl) hs q
    | d3 =>
      match r with
      | [] => rfl
      | m :: q => exact decode83_listed (htest m q rfl) hs q
    | _ => rfl

theorem decode_hsMask (hs : Bool) (ns : List Nibble) (hclear : ∀ m q, ns = 8#4 :: 2#4 :: m :: q → listedClear m)
    (htest : ∀ m q, ns = 8#4 :: 3#4 :: m :: q → listedTest m) : decode hs ns = decode true ns := by
  match ns with
  | [] => rfl
  | n0 :: r =>
    induction n0 using nibble_cases with
    | d8 =>
      exact decode8_hsMask hs r (fun m q h => hclear m q (congrArg _ h)) (fun m q h => htest m q (congrArg _ h))
    | _ => rfl

/-- Settles O4: the two tables that read the parameter, and that no other does (`decode_hsMask`). -/
theorem strictMachineAdmitsOnlyTheListedMasks : Obligations.StrictMachineAdmitsOnlyTheListedMasks :=
  fun n ns r => ⟨strict_82_unlisted_iff n r, strict_83_unlisted_iff n r, decode_hsMask false ns⟩

/-- Settles O5: the decoder is run on each of the twelve strings. -/
theorem wordsOfTheSpecDecodeAsItSays : Obligations.WordsOfTheSpecDecodeAsItSays :=
  ⟨rfl, rfl, rfl, rfl, rfl, rfl, rfl, rfl, rfl, rfl, rfl, rfl⟩

end Sys2Proof.DecoderStops
end

section
/-!
PROOF. The model's operations in the vocabulary of the statements (00_scope.md R9, R10): targets and slices of registers as plain
numbers, and the state after a test.
-/

namespace Sys2Proof.Vocabulary
open Sys2Proof Sys2Proof.Machine Sys2Proof.Claims Sys2Proof.Returns Sys2Proof.Pointer

/-! ## Targets -/

theorem sext_toNat {w : Nat} (hw : 0 < w) (off : BitVec w) : sext w off.toNat = off.toInt := by
  obtain ⟨n, rfl⟩ : ∃ n, w = n + 1 := ⟨w - 1, by omega⟩
  rw [sext, BitVec.toInt_eq_toNat_cond, Nat.add_sub_cancel]
  have hpow : 2 ^ (n + 1) = 2 * 2 ^ n := Nat.pow_succ'
  by_cases hsign : off.toNat < 2 ^ n
  · rw [if_pos hsign, if_pos (by omega)]
  · rw [if_neg hsign, if_neg (by omega)]
    push_cast
    rfl

/-- The offset is added to the address `k` nibbles on, as a signed number modulo 2^20 (30_encoding.md R94). -/
theorem relTarget_eq_target {w : Nat} (hw : 0 < w) (pc : Addr) (k : Nat) (off : BitVec w) :
    relTarget (addrPlus pc k) off = target pc k (sext w off.toNat) := by
  rw [target, sext_toNat hw, BitVec.ofInt_add, BitVec.ofInt_add, BitVec.ofInt_natCast, BitVec.ofInt_natCast,
    BitVec.ofNat_toNat, BitVec.setWidth_eq]
  rfl

theorem addrPlus_zero (pc : Addr) : addrPlus pc 0 = pc := BitVec.add_zero pc

/-! ## Tests and suffixes -/

theorem runTest_eq_afterTest (q : Nat) (cond : Bool) (y : Suffix) (s : State) :
    runTest q cond y s = afterTest s q cond y := by
  have hpast : addrPlus (addrPlus s.pc q) 2 = after s.pc (q + 2) := by
    rw [addrPlus_eq_after, addrPlus_eq_after, after_after]
  rw [runTest_eq]
  cases cond with
  | false => exact congrArg (fun pc => { s with carry := false, pc := pc }) hpast
  | true =>
    cases y with
    | goyes off =>
      exact congrArg (fun pc => { s with carry := true, pc := pc }) (relTarget_eq_target (by decide) s.pc q off)
    | rtnyes => rfl

/-! ## Slices of a register -/

theorem slice_eq_getNibs (x : Reg64) (hi lo : Nat) : slice x hi lo = (getNibs x lo (hi - lo + 1)).toNat :=
  (getNibs_toNat x lo (hi - lo + 1)).symm

theorem slice_fieldA (x : Reg64) : slice x 4 0 = (fieldA x).toNat := slice_eq_getNibs x 4 0

theorem ofNat_slice_fieldA (x : Reg64) : BitVec.ofNat 20 (slice x 4 0) = fieldA x := by
  rw [slice_fieldA, BitVec.ofNat_toNat, BitVec.setWidth_eq]

theorem slice_setFieldA_same (x : Reg64) (v : Addr) : slice (setFieldA x v) 4 0 = v.toNat := by
  rw [slice_eq_getNibs]
  exact congrArg BitVec.toNat (getNibs_setNibs_same x 0 5 v (by decide))

theorem slice_setFieldA_rest (x : Reg64) (v : Addr) : slice (setFieldA x v) 15 5 = slice x 15 5 := by
  rw [slice_eq_getNibs, slice_eq_getNibs]
  exact congrArg BitVec.toNat (getNibs_setNibs_other x 0 5 5 11 v (by decide) (by decide))

/-- The bounds of a field are the same in the model and in the statements (10_state.md R23). -/
theorem fieldHi_eq_hi (p : Nibble) (f : Field) : fieldHi p f = hi p f := by cases f <;> rfl

theorem fieldLo_eq_lo (p : Nibble) (f : Field) : fieldLo p f = lo p f := by cases f <;> rfl

theorem fieldDigits_eq (p : Nibble) (f : Field) : fieldDigits p f = hi p f - lo p f + 1 := by
  rw [fieldDigits, fieldHi_eq_hi, fieldLo_eq_lo]

theorem fieldValue_eq_fieldOf (s : State) (f : Field) (r : WReg) :
    fieldValue s f r = fieldOf s.p f (regValue s r) := by
  rw [fieldValue, fieldLo_eq_lo, fieldDigits_eq, fieldOf, slice_eq_getNibs]

end Sys2Proof.Vocabulary
end

section
/-!
PROOF. What an instruction can write (10_state.md R44). `Keeps w s t` says that `t` is `s` but for PC and the parts that `w`
allows; each operation of the model keeps it under the permission it needs, so a row of the table is the chain of its operations.
Every statement on what an instruction or a step leaves alone is read off from `exec_keeps`.
-/

namespace Sys2Proof.Frames
open Sys2Proof Sys2Proof.Machine Sys2Proof.Claims Sys2Proof.Returns Sys2Proof.StatusClears Sys2Proof.Vocabulary

/-! ## Permissions and the frame -/

/-- The parts of the state, PC aside, that an instruction may write. -/
structure Writes where
  a : Bool
  c : Bool
  p : Bool
  carry : Bool
  hst : Bool
  st : Bool
  rstk : Bool
  inte : Bool

/-- The instructions that write HST: the clears, and RTNSXM, which sets XM (10_state.md R30). -/
def writesHst (i : Instr) : Bool :=
  match i with
  | .rtnsxm => true
  | i => clearsHst i

/-- The instruction that writes INTE (10_state.md R37). -/
def writesInte (i : Instr) : Bool :=
  match i with
  | .rti => true
  | _ => false

/-- What an instruction may write, by the lists of the statements. -/
def writes (i : Instr) : Writes where
  a := writesA i
  c := writesC i
  p := writesP i
  carry := writesCarry i
  hst := writesHst i
  st := writesSt i
  rstk := usesStack i
  inte := writesInte i

/-- The state with everything blanked that some instruction writes: two states that agree on it agree on all the rest. -/
def unreached (s : State) : State :=
  { s with a := 0, c := 0, p := 0, pc := 0, carry := false, hst := 0, st := 0, rstk := RStk.zero, inte := false }

/-- Nothing differs between the two states but PC and what `w` allows. -/
structure Keeps (w : Writes) (s t : State) : Prop where
  a : w.a = false → t.a = s.a
  c : w.c = false → t.c = s.c
  p : w.p = false → t.p = s.p
  carry : w.carry = false → t.carry = s.carry
  hst : w.hst = false → t.hst = s.hst
  st : w.st = false → t.st = s.st
  rstk : w.rstk = false → t.rstk = s.rstk
  inte : w.inte = false → t.inte = s.inte
  rest : unreached t = unreached s

namespace Keeps

variable {w : Writes} {s t : State}

theorem refl : Keeps w s s :=
  ⟨fun _ => rfl, fun _ => rfl, fun _ => rfl, fun _ => rfl, fun _ => rfl, fun _ => rfl, fun _ => rfl, fun _ => rfl,
    rfl⟩

/-- A permission that is given is not also withheld. -/
theorem allowed {b : Bool} {P : Prop} (hb : b = true) : b = false → P :=
  fun hf => nomatch hb.symm.trans hf

theorem setPc (h : Keeps w s t) (v : Addr) : Keeps w s (t.setPc v) := { h with }
theorem advance (h : Keeps w s t) (k : Nat) : Keeps w s (t.advance k) := h.setPc _
theorem jumpTo (h : Keeps w s t) (v : Addr) : Keeps w s (jumpTo v t) := h.setPc v

theorem setA (h : Keeps w s t) (hw : w.a = true) (v : Reg64) : Keeps w s (t.setA v) := { h with a := allowed hw }
theorem setC (h : Keeps w s t) (hw : w.c = true) (v : Reg64) : Keeps w s (t.setC v) := { h with c := allowed hw }
theorem setP (h : Keeps w s t) (hw : w.p = true) (v : Nibble) : Keeps w s (t.setP v) := { h with p := allowed hw }
theorem setCarry (h : Keeps w s t) (hw : w.carry = true) (v : Bool) : Keeps w s (t.setCarry v) :=
  { h with carry := allowed hw }
theorem setHst (h : Keeps w s t) (hw : w.hst = true) (v : Nibble) : Keeps w s (t.setHst v) :=
  { h with hst := allowed hw }
theorem setSt (h : Keeps w s t) (hw : w.st = true) (v : BitVec 16) : Keeps w s (t.setSt v) :=
  { h with st := allowed hw }
theorem setRstk (h : Keeps w s t) (hw : w.rstk = true) (v : RStk) : Keeps w s (t.setRstk v) :=
  { h with rstk := allowed hw }
theorem setInte (h : Keeps w s t) (hw : w.inte = true) (v : Bool) : Keeps w s (t.setInte v) :=
  { h with inte := allowed hw }

theorem callTo (h : Keeps w s t) (hw : w.rstk = true) (k : Nat) (v : Addr) : Keeps w s (callTo k v t) :=
  (h.setRstk hw _).setPc v

theorem returnTo (h : Keeps w s t) (hw : w.rstk = true) : Keeps w s (returnTo t) :=
  (h.setPc _).setRstk hw _

theorem ite (b : Bool) {u : State} (ht : Keeps w s t) (hu : Keeps w s u) : Keeps w s (if b then t else u) := by
  cases b with
  | true => exact ht
  | false => exact hu

/-- A suffix writes PC, and RSTK only where it is RTNYES. -/
theorem runSuffix (h : Keeps w s t) {y : Suffix} (hw : y = .rtnyes → w.rstk = true) : Keeps w s (runSuffix y t) := by
  cases y with
  | goyes off => exact ite t.carry (h.jumpTo _) (h.advance 2)
  | rtnyes => exact ite t.carry (h.returnTo (hw rfl)) (h.advance 2)

theorem runTest (h : Keeps w s t) {y : Suffix} (hcarry : w.carry = true) (hrstk : y = .rtnyes → w.rstk = true)
    (q : Nat) (cond : Bool) : Keeps w s (runTest q cond y t) :=
  ((h.setCarry hcarry cond).advance q).runSuffix hrstk

end Keeps

/-! ## The tests -/

/-- Every test is one operation: CARRY receives the condition and the suffix, its last two nibbles, is run (42_tests_registers.md
R170). -/
theorem exec_test {i : Instr} {y : Suffix} {s t : State} (hy : testSuffix i = some y) (h : exec i s = .next t) :
    ∃ q cond, i.length = q + 2 ∧ t = runTest q cond y s := by
  cases i with
  | rtnsxm | rtn | rtnsc | rtncc | clrst | cFromSt | stFromC | cstex | pInc | pDec | rti | pSet | goc | rtnc | gonc
  | rtnnc | goto | gosub | cAddP1 | cFromP | pFromC | cpex | abit0 | abit1 | cbit0 | cbit1 | pcIndA | pcIndC | pcFromA
  | pcFromC | apcex | cpcex | hs0 | xm0 | sb0 | sr0 | mp0 | clrhs | st0 | st1 | golong | govlng | gosubl | gosbvl
  | goyes | rtnyes => nomatch hy
  | tstAbit0 | tstAbit1 | tstCbit0 | tstCbit1 =>
    obtain ⟨_, ⟨⟩⟩ := (whenLevel_next s _ _ t).mp h
    cases hy
    exact ⟨5, _, rfl, rfl⟩
  | tstHs0 =>
    obtain ⟨_, ⟨⟩⟩ := (whenMask_next s _ _ _ t).mp h
    cases hy
    exact ⟨3, _, rfl, rfl⟩
  | _ =>
    cases h
    cases hy
    exact ⟨3, _, rfl, rfl⟩

theorem writesCarry_of_test {i : Instr} {y : Suffix} (hy : testSuffix i = some y) : writesCarry i = true := by
  cases i with
  | pInc | pDec | cAddP1 | rtnsc | rtncc => rfl
  | _ => exact congrArg Option.isSome hy

theorem usesStack_of_rtnyes {i : Instr} (hy : testSuffix i = some .rtnyes) : usesStack i = true := by
  cases i with
  | gosub | gosubl | gosbvl | rtn | rtnsc | rtncc | rtnsxm | rti | rtnc | rtnnc | rtnyes => rfl
  | _ => exact decide_eq_true hy

/-! ## Every row of the table -/

open Keeps in
theorem exec_keeps {i : Instr} {s t : State} (h : exec i s = .next t) : Keeps (writes i) s t := by
  cases hy : testSuffix i with
  | some y =>
    obtain ⟨q, cond, _, rfl⟩ := exec_test hy h
    exact refl.runTest (writesCarry_of_test hy) (fun hret => usesStack_of_rtnyes (hret ▸ hy)) q cond
  | none =>
    cases i with
    | goto | golong | govlng => cases h; exact refl.jumpTo _
    | goc => cases h; exact ite s.carry (refl.jumpTo _) (refl.advance 3)
    | gonc => cases h; exact ite s.carry (refl.advance 3) (refl.jumpTo _)
    | pcFromA | pcFromC =>
      obtain ⟨_, ⟨⟩⟩ := (whenLevel_next s _ _ t).mp h
      exact refl.jumpTo _
    | pcIndA | pcIndC =>
      obtain ⟨_, hjump⟩ := (whenLevel_next s _ _ t).mp h
      obtain ⟨v, _, rfl⟩ := (jumpIndirect_next s _ t).mp hjump
      exact refl.jumpTo _
    | apcex =>
      obtain ⟨_, ⟨⟩⟩ := (whenLevel_next s _ _ t).mp h
      exact (refl.setA rfl _).jumpTo _
    | cpcex =>
      obtain ⟨_, ⟨⟩⟩ := (whenLevel_next s _ _ t).mp h
      exact (refl.setC rfl _).jumpTo _
    | gosub | gosubl | gosbvl => cases h; exact refl.callTo rfl _ _
    | rtn => cases h; exact refl.returnTo rfl
    | rtnsc | rtncc => cases h; exact (refl.setCarry rfl _).returnTo rfl
    | rtnsxm => cases h; exact (refl.setHst rfl _).returnTo rfl
    | rti => cases h; exact (refl.setInte rfl _).returnTo rfl
    | rtnc => cases h; exact ite s.carry (refl.returnTo rfl) (refl.advance 3)
    | rtnnc => cases h; exact ite s.carry (refl.advance 3) (refl.returnTo rfl)
    | goyes => cases h; exact refl.runSuffix nofun
    | rtnyes => cases h; exact refl.runSuffix (fun _ => rfl)
    | pSet | pFromC => cases h; exact (refl.setP rfl _).advance _
    | pInc | pDec => cases h; exact ((refl.setCarry rfl _).setP rfl _).advance 2
    | cAddP1 => cases h; exact ((refl.setC rfl _).setCarry rfl _).advance 3
    | cFromP | cFromSt => cases h; exact (refl.setC rfl _).advance _
    | cpex => cases h; exact ((refl.setC rfl _).setP rfl _).advance 4
    | abit0 | abit1 =>
      obtain ⟨_, ⟨⟩⟩ := (whenLevel_next s _ _ t).mp h
      exact (refl.setA rfl _).advance 5
    | cbit0 | cbit1 =>
      obtain ⟨_, ⟨⟩⟩ := (whenLevel_next s _ _ t).mp h
      exact (refl.setC rfl _).advance 5
    | st0 | st1 | stFromC | clrst => cases h; exact (refl.setSt rfl _).advance _
    | cstex => cases h; exact ((refl.setC rfl _).setSt rfl _).advance 2
    | xm0 | sb0 | sr0 | mp0 | clrhs => cases h; exact (refl.setHst rfl _).advance 3
    | hs0 =>
      obtain ⟨_, ⟨⟩⟩ := (whenMask_next s _ _ _ t).mp h
      exact (refl.setHst rfl _).advance 3
    | _ => nomatch hy

/-! ## What a step leaves alone -/

/-- The boundary touches nothing that no instruction touches, but it consumes the first event (log entry 4). -/
theorem unreached_atBoundary (s : State) : unreached (atBoundary s) = (unreached s).setEnv s.env.tail := by
  cases h : s.env with
  | nil =>
    rw [atBoundary_nil s h]
    exact congrArg (unreached s).setEnv h
  | cons e r =>
    rw [atBoundary_cons s e r h, takeEvent_eq]
    split <;> rfl

theorem step_unreached {s t : State} (h : step s = .next t) : unreached t = (unreached s).setEnv s.env.tail := by
  obtain ⟨i, _, hexec⟩ := (step_next s t).mp h
  rw [(exec_keeps hexec).rest, unreached_atBoundary]

/-- Settles O14: everything it names is what no instruction and no boundary touches (`step_unreached`). -/
theorem stepLeavesUnreachedStateAlone : Obligations.StepLeavesUnreachedStateAlone := by
  intro s t h
  have hrest := step_unreached h
  have hmem : t.mem = s.mem := (congrArg State.mem hrest :)
  exact ⟨(congrArg State.b hrest :), (congrArg State.d hrest :), (congrArg State.r0 hrest :),
    (congrArg State.r1 hrest :), (congrArg State.r2 hrest :), (congrArg State.r3 hrest :), (congrArg State.r4 hrest :),
    (congrArg State.d0 hrest :), (congrArg State.d1 hrest :), (congrArg State.inReg hrest :),
    (congrArg State.outReg hrest :), (congrArg State.hexMode hrest :), hmem,
    fun a => congrArg (Memory.read · a) hmem, (congrArg State.cfg hrest :), (congrArg State.env hrest :)⟩

/-- Settles O12: no instruction and no boundary writes memory (20_memory.md section 5), so its form is the same after the step. -/
theorem stepKeepsMemoryCanonical : Obligations.StepKeepsMemoryCanonical := by
  intro s t hinv h
  have hmem : t.mem = s.mem := (congrArg State.mem (step_unreached h) :)
  rw [State.Inv, hmem]
  exact hinv

/-! ## The writers of each register (10_state.md R44) -/

/-- Settles O20: the frame of the instruction, at A, C and P. -/
theorem workingRegistersHaveTheirWriters : Obligations.WorkingRegistersHaveTheirWriters :=
  fun _ _ _ h => ⟨(exec_keeps h).a, (exec_keeps h).c, (exec_keeps h).p⟩

theorem writesInte_of_ne_rti {i : Instr} (hi : i ≠ .rti) : writesInte i = false := by
  unfold writesInte
  split
  · exact absurd rfl hi
  · rfl

/-- Settles O19: the frame at RSTK and INTE; RTI is the return with INTE set before it. -/
theorem returnStackChangesOnlyByCallsAndReturns : Obligations.ReturnStackChangesOnlyByCallsAndReturns := by
  intro i s t h
  refine ⟨(exec_keeps h).rstk, fun hne => (exec_keeps h).inte (writesInte_of_ne_rti hne), ?_⟩
  rintro rfl
  cases h
  rfl

/-- ST{R} does not reach flags C to F (10_state.md R32). -/
theorem setStR_high (st : BitVec 16) (v : BitVec 12) {j : Nat} (hj : 12 ≤ j) :
    (setStR st v).getLsbD j = st.getLsbD j := by
  by_cases hlt : j < 16
  · rw [setStR_getLsbD st v hlt, if_neg (by omega)]
  · rw [BitVec.getLsbD_of_ge _ _ (by omega), BitVec.getLsbD_of_ge _ _ (by omega)]

theorem exec_highFlags {i : Instr} {s t : State} (h : exec i s = .next t) (h0 : ∀ n, i ≠ .st0 n)
    (h1 : ∀ n, i ≠ .st1 n) {j : Nat} (hj : 12 ≤ j) : t.st.getLsbD j = s.st.getLsbD j := by
  cases i with
  | st0 n => exact absurd rfl (h0 n)
  | st1 n => exact absurd rfl (h1 n)
  | cstex | stFromC | clrst =>
    cases h
    exact setStR_high s.st _ hj
  | _ => rw [(exec_keeps h).st rfl]

/-- Settles O18: the frame at ST, and the three writers of ST{R} (`setStR_high`). -/
theorem flagsCToFChangeOnlyByStZeroAndStOne : Obligations.FlagsCToFChangeOnlyByStZeroAndStOne :=
  fun _ _ _ h => ⟨(exec_keeps h).st, fun h0 h1 _ hj => exec_highFlags h h0 h1 hj⟩

/-! ## CARRY -/

theorem afterTest_carry (s : State) (q : Nat) (cond : Bool) (y : Suffix) : (afterTest s q cond y).carry = cond := by
  cases cond with
  | false => rfl
  | true => cases y <;> rfl

/-- A test that leaves CARRY 1 has taken its suffix, one that leaves CARRY 0 has not, in the statements' words. -/
theorem exec_test_afterTest {i : Instr} {y : Suffix} {s t : State} (hy : testSuffix i = some y)
    (h : exec i s = .next t) : ∃ q, i.length = q + 2 ∧ t = afterTest s q t.carry y := by
  obtain ⟨q, cond, hlength, ht⟩ := exec_test hy h
  rw [runTest_eq_afterTest] at ht
  exact ⟨q, hlength, by rw [ht, afterTest_carry]⟩

theorem afterTest_frame (s : State) (q : Nat) (cond : Bool) (y : Suffix) :
    afterTest s q cond y = { s with carry := (afterTest s q cond y).carry, pc := (afterTest s q cond y).pc,
                                    rstk := (afterTest s q cond y).rstk } := by
  cases cond with
  | false => rfl
  | true => cases y <;> rfl

/-- Settles O16: the frame at CARRY for what is no test; a test is `afterTest`, read off case by case. -/
theorem carryIsWrittenOnlyByItsWriters : Obligations.CarryIsWrittenOnlyByItsWriters := by
  intro i s t h
  refine ⟨(exec_keeps h).carry, fun htest hc => ?_, fun off hy hc => ?_, fun hy hc => ?_, fun htest => ?_⟩
  · obtain ⟨y, hy⟩ := Option.isSome_iff_exists.mp htest
    obtain ⟨q, hlength, ht⟩ := exec_test_afterTest hy h
    rw [hc] at ht
    rw [ht, hlength]
    exact ⟨rfl, rfl⟩
  · obtain ⟨q, hlength, ht⟩ := exec_test_afterTest hy h
    rw [hc] at ht
    rw [ht, hlength, Nat.add_sub_cancel]
    exact ⟨rfl, rfl⟩
  · obtain ⟨q, _, ht⟩ := exec_test_afterTest hy h
    rw [hc] at ht
    rw [ht]
    exact ⟨rfl, rfl⟩
  · obtain ⟨y, hy⟩ := Option.isSome_iff_exists.mp htest
    obtain ⟨q, _, ht⟩ := exec_test_afterTest hy h
    rw [ht]
    exact afterTest_frame s q t.carry y

/-! ## HST -/

/-- The three things an instruction can do to HST (10_state.md R30). -/
theorem exec_hst {i : Instr} {s t : State} (h : exec i s = .next t) :
    (clearsHst i = true ∧ ∃ n, t.hst = clearMask s.hst n) ∨ (i = .rtnsxm ∧ t.hst = s.hst ||| xmMask) ∨
      t.hst = s.hst := by
  cases i with
  | xm0 | sb0 | sr0 | mp0 =>
    cases h
    exact .inl ⟨rfl, _, rfl⟩
  | clrhs =>
    cases h
    exact .inl ⟨rfl, 15#4, (clearMask_all s.hst).symm⟩
  | hs0 n =>
    obtain ⟨_, ⟨⟩⟩ := (whenMask_next s _ _ _ t).mp h
    exact .inl ⟨rfl, n, rfl⟩
  | rtnsxm =>
    cases h
    exact .inr (.inl ⟨rfl, rfl⟩)
  | _ => exact .inr (.inr ((exec_keeps h).hst rfl))

theorem xmMask_getLsbD {j : Nat} (hj : j < 4) : xmMask.getLsbD j = decide (j = 0) := by
  interval_cases j <;> rfl

theorem exec_hst_kept {i : Instr} {s t : State} (h : exec i s = .next t) (hi : clearsHst i = false) {j : Nat}
    (hset : s.hst.getLsbD j = true) : t.hst.getLsbD j = true := by
  obtain ⟨hclears, _⟩ | ⟨_, ht⟩ | ht := exec_hst h
  · nomatch hi.symm.trans hclears
  · rw [ht, BitVec.getLsbD_or, hset, Bool.true_or]
  · rw [ht, hset]

theorem exec_hst_set {i : Instr} {s t : State} (h : exec i s = .next t) {j : Nat} (hj : j < 4)
    (hset : t.hst.getLsbD j = true) : s.hst.getLsbD j = true ∨ i = .rtnsxm ∧ j = 0 := by
  obtain ⟨_, n, ht⟩ | ⟨hi, ht⟩ | ht := exec_hst h
  · rw [ht, clearMask_getLsbD s.hst n hj, Bool.and_eq_true_iff] at hset
    exact .inl hset.1
  · rw [ht, BitVec.getLsbD_or, Bool.or_eq_true_iff, xmMask_getLsbD hj, decide_eq_true_iff] at hset
    exact hset.imp_right fun hj0 => ⟨hi, hj0⟩
  · exact .inl (ht ▸ hset)

theorem takeEvent_hst (e : EnvEvent) (s : State) :
    (takeEvent e s).hst = s.hst ||| (e.hstSet &&& s.cfg.hstAsync) := by
  rw [takeEvent_eq]
  split <;> rfl

/-- The environment sets bits of HST_ASYNC and clears none (10_state.md R39). -/
theorem atBoundary_hst_iff (s : State) (j : Nat) :
    (atBoundary s).hst.getLsbD j = true ↔
      s.hst.getLsbD j = true ∨
        s.cfg.hstAsync.getLsbD j = true ∧ ∃ e r, s.env = e :: r ∧ e.hstSet.getLsbD j = true := by
  cases h : s.env with
  | nil => simp [atBoundary_nil s h]
  | cons e r => simp [atBoundary_cons s e r h, takeEvent_hst, and_comm]

/-- Settles O17: the boundary sets bits (`atBoundary_hst_iff`), then the instruction clears, sets XM or keeps (`exec_hst`). -/
theorem hstBitsAreSticky : Obligations.HstBitsAreSticky := by
  intro s t h
  obtain ⟨i, hfetched, hexec⟩ := (step_next s t).mp h
  refine ⟨i, hfetched, fun j hj => ⟨fun hi hset => ?_, fun hset => ?_⟩⟩
  · exact exec_hst_kept hexec hi ((atBoundary_hst_iff s j).mpr (.inl hset))
  · obtain hbefore | hxm := exec_hst_set hexec hj hset
    · obtain hold | hasync := (atBoundary_hst_iff s j).mp hbefore
      · exact .inl hold
      · exact .inr (.inr hasync)
    · exact .inr (.inl hxm)

end Sys2Proof.Frames
end

section
/-!
PROOF. Reading memory (20_memory.md R61, R67; 00_scope.md R10): what a read of several nibbles answers, where it is refused, and
that it gives back what was stored. From it, the jumps through memory (40_jumps.md R136, R137).
-/

namespace Sys2Proof.MemoryReads
open Sys2Proof Sys2Proof.Machine Sys2Proof.Claims Sys2Proof.Returns Sys2Proof.Vocabulary

/-! ## Addresses and digits -/

/-- The nibble after the first of those at an address is the first of those one further on. -/
theorem add_ofNat_succ (addr : Addr) (i : Nat) : addr + BitVec.ofNat 20 (i + 1) = addr + 1 + BitVec.ofNat 20 i := by
  rw [BitVec.ofNat_add, BitVec.add_comm (BitVec.ofNat 20 i), ← BitVec.add_assoc]
  rfl

theorem add_ofNat_zero (addr : Addr) : addr + BitVec.ofNat 20 0 = addr := BitVec.add_zero addr

theorem getElem_nibblesLE {k i : Nat} (v : Nat) (hi : i < (nibblesLE k v).length) :
    (nibblesLE k v)[i] = BitVec.ofNat 4 (v / 16 ^ i) := by
  induction k generalizing v i with
  | zero => nomatch hi
  | succ k ih =>
    cases i with
    | zero => simp [nibblesLE]
    | succ i =>
      have hstep := ih (v / 16) (i := i) (by simpa [nibblesLE] using hi)
      rw [Nat.div_div_eq_div_mul, ← Nat.pow_succ'] at hstep
      simpa [nibblesLE] using hstep

/-! ## What a read of several nibbles answers -/

theorem readNibbles_zero (m : Memory) (addr : Addr) : readNibbles m addr 0 = .ok [] := rfl

theorem readNibbles_succ_none {m : Memory} {addr : Addr} (h : Memory.read m addr = none) (k : Nat) :
    readNibbles m addr (k + 1) = .error addr := by
  simp [readNibbles, h]

theorem readNibbles_succ_some {m : Memory} {addr : Addr} {n : Nibble} (h : Memory.read m addr = some n) (k : Nat) :
    readNibbles m addr (k + 1) = (readNibbles m (addr + 1) k).map (n :: ·) := by
  simp only [readNibbles, h]
  cases readNibbles m (addr + 1) k <;> rfl

/-- Where every address is readable the read answers the nibbles there; the converse is `readNibbles_ok`. -/
theorem readNibbles_of_read {m : Memory} (l : List Nibble) (addr : Addr)
    (h : ∀ i, (hi : i < l.length) → Memory.read m (addr + BitVec.ofNat 20 i) = some l[i]) :
    readNibbles m addr l.length = .ok l := by
  induction l generalizing addr with
  | nil => rfl
  | cons n r ih =>
    have hhead : Memory.read m addr = some n := by simpa using h 0 (Nat.succ_pos _)
    have htail : readNibbles m (addr + 1) r.length = .ok r := by
      refine ih (addr + 1) fun i hi => ?_
      rw [← add_ofNat_succ]
      exact h (i + 1) (Nat.succ_lt_succ hi)
    rw [List.length_cons, readNibbles_succ_some hhead, htail]
    rfl

theorem readNibbles_ok_iff (m : Memory) (addr : Addr) (l : List Nibble) (k : Nat) :
    readNibbles m addr k = .ok l ↔
      l.length = k ∧ ∀ i, (hi : i < l.length) → Memory.read m (addr + BitVec.ofNat 20 i) = some l[i] := by
  constructor
  · exact readNibbles_ok k m addr l
  · rintro ⟨rfl, h⟩
    exact readNibbles_of_read l addr h

/-- The refusal names the first address that is not readable. -/
theorem readNibbles_of_first_unreadable {m : Memory} {k n : Nat} {addr : Addr} (hk : k < n)
    (hbefore : ∀ j < k, (Memory.read m (addr + BitVec.ofNat 20 j)).isSome = true)
    (hnone : Memory.read m (addr + BitVec.ofNat 20 k) = none) :
    readNibbles m addr n = .error (addr + BitVec.ofNat 20 k) := by
  induction k generalizing n addr with
  | zero =>
    obtain ⟨n, rfl⟩ : ∃ n', n = n' + 1 := ⟨n - 1, by omega⟩
    rw [add_ofNat_zero] at hnone ⊢
    exact readNibbles_succ_none hnone n
  | succ k ih =>
    obtain ⟨n, rfl⟩ : ∃ n', n = n' + 1 := ⟨n - 1, by omega⟩
    obtain ⟨v, hv⟩ := Option.isSome_iff_exists.mp (hbefore 0 (Nat.succ_pos k))
    rw [add_ofNat_zero] at hv
    have htail := ih (n := n) (addr := addr + 1) (by omega)
      (fun j hj => by
        rw [← add_ofNat_succ]
        exact hbefore (j + 1) (by omega))
      (by rwa [← add_ofNat_succ])
    rw [readNibbles_succ_some hv, htail, add_ofNat_succ]
    rfl

theorem readNibbles_error_unreadable {m : Memory} {k : Nat} {addr e : Addr} (h : readNibbles m addr k = .error e) :
    Memory.read m e = none := by
  induction k generalizing addr with
  | zero => nomatch h
  | succ k ih =>
    cases hread : Memory.read m addr with
    | none =>
      rw [readNibbles_succ_none hread] at h
      cases h
      exact hread
    | some n =>
      rw [readNibbles_succ_some hread] at h
      cases htail : readNibbles m (addr + 1) k with
      | error e' =>
        rw [htail] at h
        cases h
        exact ih htail
      | ok r =>
        rw [htail] at h
        nomatch h

/-- A read answers nibbles exactly where all of them are readable. -/
theorem readNibbles_isOk_iff (m : Memory) (addr : Addr) (k : Nat) :
    (∃ l, readNibbles m addr k = .ok l) ↔
      ∀ j < k, (Memory.read m (addr + BitVec.ofNat 20 j)).isSome = true := by
  constructor
  · rintro ⟨l, hl⟩ j hj
    obtain ⟨hlength, hread⟩ := readNibbles_ok k m addr l hl
    rw [hread j (hlength ▸ hj)]
    rfl
  · intro h
    induction k generalizing addr with
    | zero => exact ⟨[], rfl⟩
    | succ k ih =>
      obtain ⟨n, hn⟩ := Option.isSome_iff_exists.mp (h 0 (Nat.succ_pos k))
      rw [add_ofNat_zero] at hn
      obtain ⟨r, hr⟩ := ih (addr + 1) fun j hj => by
        rw [← add_ofNat_succ]
        exact h (j + 1) (by omega)
      exact ⟨n :: r, by rw [readNibbles_succ_some hn, hr]; rfl⟩

/-! ## MemRead and MemWrite -/

theorem memRead_eq_map (m : Memory) (addr : Addr) (k : Nat) :
    memRead m addr k = (readNibbles m addr k).map leValue := by
  unfold memRead
  cases readNibbles m addr k <;> rfl

theorem memRead_ok_iff (m : Memory) (addr : Addr) (k v : Nat) :
    memRead m addr k = .ok v ↔ v < 16 ^ k ∧ readNibbles m addr k = .ok (nibblesLE k v) := by
  constructor
  · intro h
    obtain ⟨l, hl, rfl⟩ := memRead_ok m addr k v h
    obtain ⟨rfl, _⟩ := readNibbles_ok k m addr l hl
    exact ⟨leValue_lt l, by rw [nibblesLE_leValue, hl]⟩
  · rintro ⟨hlt, hl⟩
    rw [memRead_eq_map, hl]
    exact congrArg Except.ok ((leValue_nibblesLE k v).trans (Nat.mod_eq_of_lt hlt))

/-- Nibbles stored from an address on are there, also across the top of the space, if they are no more than it has addresses. -/
theorem read_writeNibbles (l : List Nibble) (m : Memory) (addr : Addr) (hfits : l.length ≤ 2 ^ 20) {i : Nat}
    (hi : i < l.length) : Memory.read (writeNibbles m addr l) (addr + BitVec.ofNat 20 i) = some l[i] := by
  induction l generalizing m addr i with
  | nil => nomatch hi
  | cons n r ih =>
    rw [List.length_cons] at hfits hi
    cases i with
    | zero =>
      have hlater : ∀ j < r.length, addr ≠ addr + 1 + BitVec.ofNat 20 j := by
        intro j hj heq
        have hvalues := congrArg BitVec.toNat heq
        have haddr := addr.isLt
        simp [BitVec.toNat_add] at hvalues
        omega
      rw [add_ofNat_zero, writeNibbles, writeNibbles_other r _ _ _ hlater, Memory.read_write_same]
      rfl
    | succ i =>
      rw [add_ofNat_succ, writeNibbles, ih _ _ (by omega) (by omega)]
      rfl

/-- Settles O24: the nibbles read are the digits of the number, and those written are read back (`read_writeNibbles`). -/
theorem memReadTakesTheLowestAddressAsLeastSignificant :
    Obligations.MemReadTakesTheLowestAddressAsLeastSignificant := by
  refine ⟨fun m addr k v => ?_, fun m addr k v hk => ?_⟩
  · rw [memRead_ok_iff, readNibbles_ok_iff]
    simp only [nibblesLE_length, true_and, getElem_nibblesLE]
    exact and_congr_right fun _ => forall₂_congr fun i _ => by rw [← addrPlus_eq_after, addrPlus]
  · have hread : readNibbles (memWrite m addr k v) addr (nibblesLE k v).length = .ok (nibblesLE k v) :=
      readNibbles_of_read _ addr fun i hi => read_writeNibbles _ m addr (by rwa [nibblesLE_length]) hi
    rw [nibblesLE_length] at hread
    rw [memRead_eq_map, hread]
    exact congrArg Except.ok (leValue_nibblesLE k v)

/-! ## Jumps through memory -/

theorem nibbleAt_slice (s : State) (x : Reg64) (i : Nat) :
    nibbleAt s (slice x 4 0) i = Memory.read s.mem (fieldA x + BitVec.ofNat 20 i) := by
  rw [nibbleAt, BitVec.ofNat_add, ofNat_slice_fieldA]

theorem whenLevel_of_le {k : Nat} {s : State} (h : k ≤ s.cfg.version.level) (t : Result) : whenLevel k s t = t :=
  if_pos h

/-- A jump through memory at field A of a register, from a level on, reads five nibbles there. -/
theorem jumpsThrough_of_exec {i : Instr} {need : Nat} {reg : State → Reg64}
    (hexec : ∀ s, exec i s = whenLevel need s (jumpIndirect (fieldA (reg s)) s)) :
    jumpsThrough i need (fun s => slice (reg s) 4 0) := by
  intro s hlevel
  simp only [nibbleAt_slice]
  rw [hexec, whenLevel_of_le hlevel]
  refine ⟨fun n0 n1 n2 n3 n4 h0 h1 h2 h3 h4 => ?_, fun k hk hbefore hnone => ?_⟩
  · have hread : readNibbles s.mem (fieldA (reg s)) 5 = .ok [n0, n1, n2, n3, n4] := by
      refine readNibbles_of_read [n0, n1, n2, n3, n4] _ fun j hj => ?_
      have hj' : j < 5 := hj
      interval_cases j <;> assumption
    have hvalue : leValue [n0, n1, n2, n3, n4] =
        n0.toNat + 16 * n1.toNat + 256 * n2.toNat + 4096 * n3.toNat + 65536 * n4.toNat := by
      simp only [leValue]
      omega
    refine (jumpIndirect_next s _ _).mpr ⟨leValue [n0, n1, n2, n3, n4], ?_, by rw [hvalue]⟩
    rw [memRead_eq_map, hread]
    rfl
  · have hread := readNibbles_of_first_unreadable hk hbefore hnone
    rw [BitVec.ofNat_add, ofNat_slice_fieldA, jumpIndirect, memRead_eq_map, hread]
    rfl

/-- Settles O28: both are the one jump through memory (`jumpsThrough_of_exec`), at field A of A and of C. -/
theorem indirectJumpsReadFiveNibbles : Obligations.IndirectJumpsReadFiveNibbles :=
  ⟨jumpsThrough_of_exec (reg := fun s => s.a) fun _ => rfl, jumpsThrough_of_exec (reg := fun s => s.c) fun _ => rfl⟩

end Sys2Proof.MemoryReads
end

section
/-!
PROOF. Which outcome an instruction has and why. An instruction is refused for its level, its mask or the data it reads, and for
nothing else (30_encoding.md R100, R106; 20_memory.md R67); a step also for what it fetches. And no outcome depends on the
registers that nothing in scope reads (10_state.md R24, R25, R28, R36).
-/

namespace Sys2Proof.Outcomes
open Sys2Proof Sys2Proof.Machine Sys2Proof.Claims Sys2Proof.Returns Sys2Proof.Vocabulary Sys2Proof.MemoryReads
open Sys2Proof.EncodeDecode Sys2Proof.DecoderStops

/-! ## Levels (00_scope.md R2) -/

theorem whenLevel_of_lt {k : Nat} {s : State} (h : s.cfg.version.level < k) (t : Result) :
    whenLevel k s t = .refused (.aboveLevel k) :=
  if_neg (Nat.not_le_of_lt h)

theorem exec_aboveLevel {i : Instr} {s : State} (h : s.cfg.version.level < i.level) :
    exec i s = .refused (.aboveLevel i.level) := by
  cases i with
  | abit0 | abit1 | cbit0 | cbit1 | tstAbit0 | tstAbit1 | tstCbit0 | tstCbit1 | pcFromA | pcFromC | apcex | cpcex
  | pcIndA | pcIndC => exact whenLevel_of_lt h _
  | _ => nomatch h

/-- Settles O10: the fourteen instructions above level 0 are behind their level (`exec_aboveLevel`). -/
theorem instructionAboveTheLevelIsRefused : Obligations.InstructionAboveTheLevelIsRefused := by
  refine fun i s => ⟨exec_aboveLevel, fun t h => ?_⟩
  by_contra habove
  rw [exec_aboveLevel (Nat.lt_of_not_le habove)] at h
  nomatch h

/-! ## Completion -/

theorem namedClear_iff (n : Nibble) : namedClear n = true ↔ listedClear n := by
  simp [namedClear, listedClear]

theorem namedTest_iff (n : Nibble) : namedTest n = true ↔ listedTest n := by
  simp [namedTest, listedTest]

theorem whenLevel_completes (k : Nat) (s u : State) :
    (∃ t, whenLevel k s (.next u) = .next t) ↔ k ≤ s.cfg.version.level ∧ True ∧ True := by
  simp [whenLevel_next]

theorem whenMask_completes (named : Bool) (n : Nibble) (s u : State) :
    (∃ t, whenMask named n s (.next u) = .next t) ↔
      0 ≤ s.cfg.version.level ∧ (s.cfg.hsMaskGeneral = true ∨ named = true) ∧ True := by
  simp [whenMask_next]

/-- A jump through memory completes exactly where its level is reached and its five nibbles are readable. -/
theorem jumpIndirect_completes (k : Nat) (s : State) (x : Reg64) :
    (∃ t, whenLevel k s (jumpIndirect (fieldA x) s) = .next t) ↔
      k ≤ s.cfg.version.level ∧ True ∧ ∀ j < 5, (nibbleAt s (slice x 4 0) j).isSome = true := by
  simp only [nibbleAt_slice, ← readNibbles_isOk_iff, true_and]
  constructor
  · rintro ⟨t, h⟩
    obtain ⟨hlevel, hjump⟩ := (whenLevel_next s k _ t).mp h
    obtain ⟨v, hread, _⟩ := (jumpIndirect_next s (fieldA x) t).mp hjump
    exact ⟨hlevel, _, ((memRead_ok_iff _ _ _ _).mp hread).2⟩
  · rintro ⟨hlevel, l, hl⟩
    have hread : memRead s.mem (fieldA x) 5 = .ok (leValue l) := by rw [memRead_eq_map, hl]; rfl
    exact ⟨_, (whenLevel_next s k _ _).mpr ⟨hlevel, (jumpIndirect_next s (fieldA x) _).mpr ⟨_, hread, rfl⟩⟩⟩

/-- Settles O11: the instructions behind a level, behind a mask or reading memory have these conditions, the others none. -/
theorem everyAdmittedInstructionCompletes : Obligations.EveryAdmittedInstructionCompletes := by
  intro i s
  cases i with
  | abit0 | abit1 | cbit0 | cbit1 | tstAbit0 | tstAbit1 | tstCbit0 | tstCbit1 | pcFromA | pcFromC | apcex | cpcex =>
    exact whenLevel_completes 2 s _
  | pcIndA => exact jumpIndirect_completes 1 s s.a
  | pcIndC => exact jumpIndirect_completes 2 s s.c
  | hs0 n =>
    simp only [maskAdmitted, ← namedClear_iff]
    exact whenMask_completes _ n s _
  | tstHs0 n y =>
    simp only [maskAdmitted, ← namedTest_iff]
    exact whenMask_completes _ n s _
  | _ => exact iff_of_true ⟨_, rfl⟩ ⟨Nat.zero_le _, trivial, trivial⟩

/-! ## Unreadable nibbles (20_memory.md R67) -/

theorem jumpIndirect_unreadable {ea a : Addr} {s : State} (h : jumpIndirect ea s = .refused (.unreadable a)) :
    Memory.read s.mem a = none := by
  rw [jumpIndirect, memRead_eq_map] at h
  cases hread : readNibbles s.mem ea 5 with
  | ok l =>
    rw [hread] at h
    nomatch h
  | error e =>
    rw [hread] at h
    cases h
    exact readNibbles_error_unreadable hread

theorem whenLevel_unreadable {k : Nat} {s : State} {t : Result} {a : Addr}
    (h : whenLevel k s t = .refused (.unreadable a)) : t = .refused (.unreadable a) := by
  unfold whenLevel at h
  split at h
  · exact h
  · nomatch h

theorem whenMask_unreadable {named : Bool} {n : Nibble} {s : State} {t : Result} {a : Addr}
    (h : whenMask named n s t = .refused (.unreadable a)) : t = .refused (.unreadable a) := by
  unfold whenMask at h
  split at h
  · exact h
  · nomatch h

theorem exec_unreadable {i : Instr} {s : State} {a : Addr} (h : exec i s = .refused (.unreadable a)) :
    Memory.read s.mem a = none := by
  cases i with
  | pcIndA | pcIndC => exact jumpIndirect_unreadable (whenLevel_unreadable h)
  | abit0 | abit1 | cbit0 | cbit1 | tstAbit0 | tstAbit1 | tstCbit0 | tstCbit1 | pcFromA | pcFromC | apcex | cpcex =>
    nomatch whenLevel_unreadable h
  | hs0 | tstHs0 => nomatch whenMask_unreadable h
  | _ => nomatch h

/-- A fetch of fewer nibbles than asked for has ended before one that is not readable. -/
theorem fetchNibbles_short {m : Memory} {k : Nat} {addr : Addr} (h : (fetchNibbles m addr k).length < k) :
    Memory.read m (addrPlus addr (fetchNibbles m addr k).length) = none := by
  induction k generalizing addr with
  | zero => nomatch h
  | succ k ih =>
    cases hread : Memory.read m addr with
    | none =>
      simp only [fetchNibbles, hread, List.length_nil]
      rw [addrPlus_zero, hread]
    | some n =>
      simp only [fetchNibbles, hread, List.length_cons] at h ⊢
      rw [addrPlus, add_ofNat_succ]
      exact ih (Nat.lt_of_succ_lt_succ h)

theorem atBoundary_mem (s : State) : (atBoundary s).mem = s.mem :=
  (congrArg State.mem (Frames.unreached_atBoundary s) :)

theorem step_unreadable {s : State} {a : Addr} (h : step s = .refused (.unreadable a)) :
    Memory.read s.mem a = none := by
  rw [← atBoundary_mem]
  unfold step stepAfterBoundary at h
  split at h
  · exact exec_unreadable h
  · nomatch h
  · next hshort =>
    cases h
    exact fetchNibbles_short ((decode_stops _).short_length _ hshort)

theorem step_of_unreadable {s : State} (h : Memory.read s.mem (atBoundary s).pc = none) :
    step s = .refused (.unreadable (atBoundary s).pc) := by
  rw [← atBoundary_mem] at h
  have hfetch : fetchNibbles (atBoundary s).mem (atBoundary s).pc maxLength = [] := by
    simp [maxLength, fetchNibbles, h]
  have hfetched : fetched (atBoundary s) = .short := by rw [fetched, hfetch]; rfl
  simp only [step, stepAfterBoundary, hfetched, hfetch, List.length_nil, addrPlus_zero]

/-- Settles O9: a refused fetch ended there, a refused data read named the address (`step_unreadable`); and an unreadable PC
leaves nothing to decode (`step_of_unreadable`). -/
theorem refusedReadNamesAnUnreadableNibble : Obligations.RefusedReadNamesAnUnreadableNibble :=
  ⟨fun _ _ => step_unreadable, fun _ => step_of_unreadable⟩

/-- Settles O13: the memory at reset is empty, so its first address is unreadable. -/
theorem resetHasTheInvariantAndTheResetPc : Obligations.ResetHasTheInvariantAndTheResetPc :=
  ⟨empty_wf, rfl, step_of_unreadable (s := State.reset) rfl⟩

/-! ## Running what was fetched -/

theorem step_of_fetched {s : State} {i : Instr} (h : fetched (atBoundary s) = .ok i) :
    step s = exec i (atBoundary s) := by
  simp only [step, stepAfterBoundary, h]

/-- Settles O7: a step is the decoded instruction after the boundary, which a quiet environment leaves out. -/
theorem stepRunsTheDecodedInstruction : Obligations.StepRunsTheDecodedInstruction := by
  intro s i _ hdecode
  have hstep : step s = exec i (atBoundary s) := step_of_fetched hdecode
  exact ⟨hstep, fun hquiet => by rw [hstep, atBoundary_nil s hquiet]⟩

theorem takeEvent_setMem (e : EnvEvent) (s : State) (m : Memory) :
    takeEvent e (s.setMem m) = (takeEvent e s).setMem m := by
  have htaken : interruptTaken e (s.setMem m) = interruptTaken e s := rfl
  rw [takeEvent_eq, takeEvent_eq, htaken]
  split <;> rfl

/-- The boundary neither reads nor writes memory. -/
theorem atBoundary_setMem (s : State) (m : Memory) : atBoundary (s.setMem m) = (atBoundary s).setMem m := by
  cases h : s.env with
  | nil => rw [atBoundary_nil s h, atBoundary_nil (s.setMem m) h]
  | cons e r =>
    rw [atBoundary_cons s e r h, atBoundary_cons (s.setMem m) e r h]
    exact takeEvent_setMem e (s.setEnv r) m

theorem atBoundary_cfg (s : State) : (atBoundary s).cfg = s.cfg :=
  (congrArg State.cfg (Frames.unreached_atBoundary s) :)

/-- Seven nibbles that are placed are what the next step fetches, at whatever address that is. -/
theorem fetched_placeNibbles (s : State) {l : List Nibble} (hl : l.length = maxLength) :
    fetched (atBoundary (placeNibbles s l)) = decode s.cfg.hsMaskGeneral l := by
  have hfetch := fetchNibbles_writeNibbles l s.mem (fetchAddr s) (by rw [hl]; decide)
  rw [hl] at hfetch
  calc fetched (atBoundary (placeNibbles s l))
      = decode (atBoundary s).cfg.hsMaskGeneral
          (fetchNibbles (writeNibbles s.mem (fetchAddr s) l) (fetchAddr s) maxLength) := by
        rw [placeNibbles, atBoundary_setMem]
        rfl
    _ = decode s.cfg.hsMaskGeneral l := by rw [hfetch, atBoundary_cfg]

/-- Settles O8: the seven nibbles of the word are fetched (`fetched_placeNibbles`), and they decode to the instruction as its table
word does. -/
theorem placedInstructionRunsNext : Obligations.PlacedInstructionRunsNext := by
  intro s i nbits hwf hbits hgeneral
  refine step_of_fetched ?_
  rw [State.withFetchWord, fetched_placeNibbles s (l := wordNibbles _ _) (nibblesLE_length 7 _), hgeneral,
    wordNibbles_leValue_encode hbits]
  exact decode_encode i _ hwf

/-! ## The boundary (60_exceptions.md R285, R286) -/

/-- Settles O21: all three conditions of the entry hold (`takeEvent_eq`). -/
theorem interruptEntrySavesThePcAndDisables : Obligations.InterruptEntrySavesThePcAndDisables := by
  intro s e r henv hmode hinte hirq
  have htaken : interruptTaken e (s.setEnv r) = true := by simp [interruptTaken, hmode, hinte, hirq]
  rw [atBoundary_cons s e r henv, takeEvent_eq, if_pos htaken]
  rfl

/-- Settles O22: one condition of the entry fails, and the event has only its HST bits (`takeEvent_eq`). -/
theorem noInterruptIsTakenOtherwise : Obligations.NoInterruptIsTakenOtherwise := by
  refine ⟨fun s e r henv hnot => ?_, atBoundary_nil⟩
  have huntaken : ¬ interruptTaken e (s.setEnv r) = true := by
    obtain hmode | hinte | hirq := hnot
    · simp [interruptTaken, hmode]
    · simp [interruptTaken, hinte]
    · simp [interruptTaken, hirq]
  rw [atBoundary_cons s e r henv, takeEvent_eq, if_neg huntaken]
  rfl

/-- A pop takes off what was pushed, and the deepest level stays lost (10_state.md R35). -/
theorem popStk_pushStk (k : RStk) (v : Addr) : popStk (pushStk k v) = { k with l7 := 0x00000#20 } := rfl

/-- Settles O23: the return pops the PC that the entry pushed (`popStk_pushStk`) and sets INTE again. -/
theorem rtiUndoesInterruptEntry : Obligations.RtiUndoesInterruptEntry := by
  intro s
  calc exec .rti (interruptEntry s) = .next (interruptReturn (interruptEntry s)) := rfl
    _ = .next { s with inte := true, rstk := popStk (pushStk s.rstk s.pc) } := by
      rw [interruptReturn_eq, interruptEntry_eq]
      rfl
    _ = .next { s with inte := true, rstk := { s.rstk with l7 := 0x00000#20 } } := by rw [popStk_pushStk]

/-! ## What no outcome depends on -/

/-- Values for the registers and the mode bit that nothing in scope touches (log entry 28). -/
structure Untouched where
  r0 : Reg64
  r1 : Reg64
  r2 : Reg64
  r3 : Reg64
  r4 : Reg64
  d0 : Addr
  d1 : Addr
  inReg : BitVec 16
  outReg : BitVec 12
  hexMode : Bool

/-- The state with these values put in. -/
def fill (x : Untouched) (s : State) : State :=
  { s with r0 := x.r0, r1 := x.r1, r2 := x.r2, r3 := x.r3, r4 := x.r4, d0 := x.d0, d1 := x.d1, inReg := x.inReg,
           outReg := x.outReg, hexMode := x.hexMode }

/-- A change of the next state, where there is one. -/
def onNext (f : State → State) : Result → Result
  | .next t => .next (f t)
  | .fault r => .fault r
  | .refused r => .refused r

theorem fill_ite (x : Untouched) (b : Bool) {t u t' u' : State} (ht : t' = fill x t) (hu : u' = fill x u) :
    (if b then t' else u') = fill x (if b then t else u) := by
  rw [ht, hu]
  exact (apply_ite (fill x) (b = true) t u).symm

theorem runSuffix_fill (x : Untouched) (y : Suffix) (s : State) : runSuffix y (fill x s) = fill x (runSuffix y s) := by
  cases y with
  | goyes off => exact fill_ite x s.carry rfl rfl
  | rtnyes => exact fill_ite x s.carry rfl rfl

theorem runTest_fill (x : Untouched) (q : Nat) (cond : Bool) (y : Suffix) (s : State) :
    runTest q cond y (fill x s) = fill x (runTest q cond y s) :=
  runSuffix_fill x y ((s.setCarry cond).advance q)

theorem whenLevel_fill (x : Untouched) (k : Nat) (s : State) {t t' : Result} (h : t' = onNext (fill x) t) :
    whenLevel k (fill x s) t' = onNext (fill x) (whenLevel k s t) := by
  rw [h]
  exact (apply_ite (onNext (fill x)) (k ≤ s.cfg.version.level) t (.refused (.aboveLevel k))).symm

theorem whenMask_fill (x : Untouched) (named : Bool) (n : Nibble) (s : State) {t t' : Result}
    (h : t' = onNext (fill x) t) : whenMask named n (fill x s) t' = onNext (fill x) (whenMask named n s t) := by
  rw [h]
  exact (apply_ite (onNext (fill x)) ((s.cfg.hsMaskGeneral || named) = true) t (.refused (.maskNotAdmitted n))).symm

theorem jumpIndirect_fill (x : Untouched) (ea : Addr) (s : State) :
    jumpIndirect ea (fill x s) = onNext (fill x) (jumpIndirect ea s) := by
  have hmem : (fill x s).mem = s.mem := rfl
  unfold jumpIndirect
  rw [hmem]
  cases memRead s.mem ea 5 <;> rfl

/-- Every operation of every row commutes with filling in the untouched registers. -/
theorem exec_fill (x : Untouched) (i : Instr) (s : State) : exec i (fill x s) = onNext (fill x) (exec i s) := by
  cases i with
  | goc | gonc | rtnc | rtnnc => exact congrArg Host.Outcome.next (fill_ite x s.carry rfl rfl)
  | goyes | rtnyes => exact congrArg Host.Outcome.next (runSuffix_fill x _ s)
  | abit0 | abit1 | cbit0 | cbit1 | pcFromA | pcFromC | apcex | cpcex => exact whenLevel_fill x 2 s rfl
  | hs0 n => exact whenMask_fill x (namedClear n) n s rfl
  | pcIndA | pcIndC => exact whenLevel_fill x _ s (jumpIndirect_fill x _ s)
  | tstAbit0 _ y | tstAbit1 _ y | tstCbit0 _ y | tstCbit1 _ y =>
    exact whenLevel_fill x 2 s (congrArg Host.Outcome.next (runTest_fill x 5 _ y s))
  | tstHs0 n y => exact whenMask_fill x (namedTest n) n s (congrArg Host.Outcome.next (runTest_fill x 3 _ y s))
  | rtnsxm | rtn | rtnsc | rtncc | clrst | cFromSt | stFromC | cstex | pInc | pDec | rti | pSet | goto | gosub | cAddP1
  | cFromP | pFromC | cpex | xm0 | sb0 | sr0 | mp0 | clrhs | st0 | st1 | golong | govlng | gosubl | gosbvl => rfl
  | _ => exact congrArg Host.Outcome.next (runTest_fill x 3 _ _ s)

/-- Settles O15: filling in the registers before and after is the same (`exec_fill`). -/
theorem scratchAndInputStateIsNotRead : Obligations.ScratchAndInputStateIsNotRead := by
  intro i s x0 x1 x2 x3 x4 e0 e1 vi vo h
  refine (exec_fill ⟨x0, x1, x2, x3, x4, e0, e1, vi, vo, h⟩ i s).trans ?_
  cases exec i s <;> rfl

end Sys2Proof.Outcomes
end

section
/-!
PROOF. Jumps, calls, returns and suffixes (40_jumps.md, 41_subroutines.md): each next state is the row's operation, rewritten into
the statements' vocabulary. And the return stack under any number of pushes and pops (10_state.md R35).
-/

namespace Sys2Proof.Transfers
open Sys2Proof Sys2Proof.Machine Sys2Proof.Claims Sys2Proof.Returns Sys2Proof.Vocabulary

/-! ## The operations in the vocabulary of the statements -/

theorem jumpTo_relTarget {w : Nat} (hw : 0 < w) (s : State) (k : Nat) (off : BitVec w) :
    jumpTo (relTarget (addrPlus s.pc k) off) s = { s with pc := target s.pc k (sext w off.toNat) } := by
  rw [jumpTo_eq, relTarget_eq_target hw]

theorem callTo_eq_pushed (k : Nat) (v : Addr) (s : State) :
    callTo k v s = { s with pc := v, rstk := pushed (after s.pc k) s.rstk } := by
  rw [callTo_eq, addrPlus_eq_after]
  rfl

/-- A choice of the PC is a choice between the two states. -/
theorem pc_ite (s : State) (b : Bool) (v v' : Addr) :
    { s with pc := if b = true then v else v' } = if b = true then { s with pc := v } else { s with pc := v' } :=
  apply_ite (fun pc => { s with pc := pc }) (b = true) v v'

/-! ## Jumps -/

/-- Settles O25: both are the relative jump, from the address of their operand. -/
theorem relativeJumpsLandAtBasePlusOffset : Obligations.RelativeJumpsLandAtBasePlusOffset :=
  ⟨fun off s => congrArg Host.Outcome.next (jumpTo_relTarget (by decide) s 1 off),
    fun off s => congrArg Host.Outcome.next (jumpTo_relTarget (by decide) s 2 off)⟩

theorem exec_goc (off : BitVec 8) (s : State) :
    exec (.goc off) s =
      .next { s with pc := if s.carry = true then target s.pc 1 (sext 8 off.toNat) else after s.pc 3 } :=
  calc exec (.goc off) s
      = .next (if s.carry = true then jumpTo (relTarget (addrPlus s.pc 1) off) s else s.advance 3) := rfl
    _ = .next { s with pc := if s.carry = true then target s.pc 1 (sext 8 off.toNat) else after s.pc 3 } := by
      rw [jumpTo_relTarget (by decide), advance_eq_after, pc_ite]

theorem exec_gonc (off : BitVec 8) (s : State) :
    exec (.gonc off) s =
      .next { s with pc := if s.carry = true then after s.pc 3 else target s.pc 1 (sext 8 off.toNat) } :=
  calc exec (.gonc off) s
      = .next (if s.carry = true then s.advance 3 else jumpTo (relTarget (addrPlus s.pc 1) off) s) := rfl
    _ = .next { s with pc := if s.carry = true then after s.pc 3 else target s.pc 1 (sext 8 off.toNat) } := by
      rw [jumpTo_relTarget (by decide), advance_eq_after, pc_ite]

/-- Settles O26: each reads CARRY once, to choose between the jump and PC + 3. -/
theorem conditionalJumpsReadTheCarry : Obligations.ConditionalJumpsReadTheCarry :=
  fun off s => ⟨exec_goc off s, exec_gonc off s⟩

/-- Settles O27: the jump to the operand, and behind level 2 the jumps to field A. -/
theorem absoluteAndRegisterJumpsTakeTheAddress : Obligations.AbsoluteAndRegisterJumpsTakeTheAddress := by
  refine ⟨fun addr s => congrArg Host.Outcome.next (jumpTo_eq s addr), fun s hlevel => ?_⟩
  rw [ofNat_slice_fieldA, ofNat_slice_fieldA]
  exact ⟨MemoryReads.whenLevel_of_le hlevel _, MemoryReads.whenLevel_of_le hlevel _⟩

/-- The value that APCEX and CPCEX leave in a register (R140, R141). -/
theorem slice_saved_next (x : Reg64) (pc : Addr) :
    slice (setFieldA x (addrPlus pc 4)) 4 0 = (pc.toNat + 4) % 2 ^ 20 := by
  rw [slice_setFieldA_same, addrPlus, BitVec.toNat_add]
  rfl

/-- Settles O29: the register gets `next` in field A, and the jump goes to the field it had. -/
theorem exchangesWithPcSaveTheNextAddress : Obligations.ExchangesWithPcSaveTheNextAddress := by
  refine ⟨
    fun s hlevel => ⟨setFieldA s.a (addrPlus s.pc 4), ?_, slice_saved_next s.a s.pc, slice_setFieldA_rest s.a _⟩,
    fun s hlevel => ⟨setFieldA s.c (addrPlus s.pc 4), ?_, slice_saved_next s.c s.pc, slice_setFieldA_rest s.c _⟩⟩
  all_goals
    rw [ofNat_slice_fieldA]
    exact MemoryReads.whenLevel_of_le hlevel _

/-! ## Suffix rows -/

/-- Settles O39: the base of GOYES is the address of the suffix itself, no nibbles on. -/
theorem suffixesJumpOrReturnWhenTheTestIsTrue : Obligations.SuffixesJumpOrReturnWhenTheTestIsTrue := by
  refine ⟨fun off s => ?_, fun s => ?_⟩
  · have hbase : relTarget s.pc off = target s.pc 0 (sext 8 off.toNat) := by
      rw [← relTarget_eq_target (by decide), addrPlus_zero]
    calc exec (.goyes off) s = .next (if s.carry = true then jumpTo (relTarget s.pc off) s else s.advance 2) := rfl
      _ = .next { s with pc := if s.carry = true then target s.pc 0 (sext 8 off.toNat) else after s.pc 2 } := by
        rw [hbase, jumpTo_eq, advance_eq_after, pc_ite]
  · calc exec .rtnyes s = .next (if s.carry = true then returnTo s else s.advance 2) := rfl
      _ = .next (if s.carry = true then returned s else { s with pc := after s.pc 2 }) := by
        rw [returnTo_eq_returned, advance_eq_after]

/-! ## Calls and returns -/

theorem exec_gosub (off : BitVec 12) (s : State) : exec (.gosub off) s =
    .next { s with pc := target s.pc 4 (sext 12 off.toNat), rstk := pushed (after s.pc 4) s.rstk } :=
  calc exec (.gosub off) s = .next (callTo 4 (relTarget (addrPlus s.pc 4) off) s) := rfl
    _ = .next { s with pc := target s.pc 4 (sext 12 off.toNat), rstk := pushed (after s.pc 4) s.rstk } := by
      rw [callTo_eq_pushed, relTarget_eq_target (by decide)]

theorem exec_gosubl (off : BitVec 16) (s : State) : exec (.gosubl off) s =
    .next { s with pc := target s.pc 6 (sext 16 off.toNat), rstk := pushed (after s.pc 6) s.rstk } :=
  calc exec (.gosubl off) s = .next (callTo 6 (relTarget (addrPlus s.pc 6) off) s) := rfl
    _ = .next { s with pc := target s.pc 6 (sext 16 off.toNat), rstk := pushed (after s.pc 6) s.rstk } := by
      rw [callTo_eq_pushed, relTarget_eq_target (by decide)]

theorem exec_gosbvl (addr : Addr) (s : State) : exec (.gosbvl addr) s =
    .next { s with pc := addr, rstk := pushed (after s.pc 7) s.rstk } :=
  congrArg Host.Outcome.next (callTo_eq_pushed 7 addr s)

/-- Settles O31: the three calls. -/
theorem callsPushTheNextAddress : Obligations.CallsPushTheNextAddress :=
  ⟨exec_gosub, exec_gosubl, exec_gosbvl⟩

/-- A return takes the pushed address off again; only the deepest level is lost. -/
theorem exec_rtn_after_call (s : State) (v : Addr) (k : Nat) :
    exec .rtn { s with pc := v, rstk := pushed (after s.pc k) s.rstk } =
      .next { s with pc := after s.pc k, rstk := { s.rstk with l7 := 0x00000#20 } } :=
  exec_rtn { s with pc := v, rstk := pushed (after s.pc k) s.rstk }

/-- Settles O37: whichever the call, it pushed the address after it (`exec_rtn_after_call`). -/
theorem returnAfterCallResumesAfterTheCall : Obligations.ReturnAfterCallResumesAfterTheCall := by
  rintro s k i (⟨off, rfl, rfl⟩ | ⟨off, rfl, rfl⟩ | ⟨addr, rfl, rfl⟩)
  · exact ⟨_, exec_gosub off s, exec_rtn_after_call s _ 4⟩
  · exact ⟨_, exec_gosubl off s, exec_rtn_after_call s _ 6⟩
  · exact ⟨_, exec_gosbvl addr s, exec_rtn_after_call s _ 7⟩

/-- Settles O35: RTNSXM is the return with XM set in HST before it, RTI the return with INTE set. -/
theorem rtnsxmAndRtiReturnAndSetTheirBit : Obligations.RtnsxmAndRtiReturnAndSetTheirBit := by
  refine ⟨fun s => ⟨s.hst ||| xmMask, rfl, fun j hj => ?_⟩, fun s => ?_⟩
  · rw [BitVec.getLsbD_or, Frames.xmMask_getLsbD hj]
  · calc exec .rti s = .next (interruptReturn s) := rfl
      _ = .next { returned s with inte := true } := by
        rw [interruptReturn_eq]
        rfl

/-! ## Many pushes and pops -/

theorem levels_popStk (k : RStk) : levels (popStk k) = (levels k).drop 1 ++ [0x00000#20] := rfl

theorem levels_pushStk (k : RStk) (v : Addr) : levels (pushStk k v) = (v :: levels k).take 8 := rfl

theorem levels_length (k : RStk) : (levels k).length = 8 := rfl

theorem levels_popStk_iterate (k : RStk) {n : Nat} (hn : n ≤ 8) :
    levels (popStk^[n] k) = (levels k).drop n ++ List.replicate n 0x00000#20 := by
  induction n with
  | zero => exact (List.append_nil _).symm
  | succ n ih =>
    have hleft : 1 ≤ ((levels k).drop n).length := by
      rw [List.length_drop, levels_length]
      omega
    rw [Function.iterate_succ_apply', levels_popStk, ih (by omega), List.drop_append_of_le_length hleft, List.drop_drop,
      List.append_assoc, List.replicate_succ']

/-- Eight pops leave nothing of the stack, and a pop of the empty stack leaves it empty. -/
theorem popStk_iterate_of_eight_le (k : RStk) {n : Nat} (hn : 8 ≤ n) : popStk^[n] k = RStk.zero := by
  obtain ⟨m, rfl⟩ : ∃ m, n = m + 8 := ⟨n - 8, by omega⟩
  have height : popStk^[8] k = RStk.zero := rfl
  have hempty : popStk RStk.zero = RStk.zero := rfl
  rw [Function.iterate_add_apply, height, Function.iterate_fixed hempty]

/-- Of any pushes the last eight are kept, and before them what the stack had. -/
theorem levels_foldl_pushStk (k : RStk) (vs : List Addr) :
    levels (vs.foldl pushStk k) = (vs.reverse ++ levels k).take 8 := by
  induction vs generalizing k with
  | nil => rfl
  | cons v vs ih =>
    have htake : (vs.reverse ++ (v :: levels k).take 8).take 8 = (vs.reverse ++ v :: levels k).take 8 := by
      rw [List.take_append, List.take_append, List.take_take, Nat.min_eq_left (Nat.sub_le 8 _)]
    rw [List.foldl_cons, ih, levels_pushStk, htake, List.reverse_cons, List.append_assoc, List.singleton_append]

theorem exec_rtn_of_zero {s : State} (h : s.rstk = RStk.zero) : exec .rtn s = .next { s with pc := 0x00000#20 } := by
  rw [exec_rtn, returned, h]
  rfl

/-- Settles O38: the return and the call are one pop and one push, and the levels after any number of either are those of
`levels_popStk_iterate` and `levels_foldl_pushStk`. -/
theorem eightReturnsEmptyTheStack : Obligations.EightReturnsEmptyTheStack := by
  refine ⟨exec_rtn, exec_gosbvl, fun k _ => levels_popStk_iterate k, fun k _ => popStk_iterate_of_eight_le k,
    fun _ => exec_rtn_of_zero, levels_foldl_pushStk, fun k v1 v2 v3 v4 v5 v6 v7 v8 v9 => ?_⟩
  rw [levels_foldl_pushStk]
  rfl

end Sys2Proof.Transfers
end

section
/-!
PROOF. The offsets of the assembler (30_encoding.md R108 to R111). A relative operand is the one offset that leads from its base
to the label; so the labels in reach are those that some offset leads to, and what is assembled lands on its label.
-/

namespace Sys2Proof.Assembler
open Sys2Proof Sys2Proof.Machine Sys2Proof.Claims Sys2Proof.Returns Sys2Proof.Vocabulary

/-! ## Operands -/

/-- Cutting a word back to its width undoes the sign extension. -/
theorem setWidth_signExtend {w : Nat} (hw : w ≤ 20) (off : BitVec w) : (off.signExtend 20).setWidth w = off := by
  apply BitVec.eq_of_getLsbD_eq
  intro j hj
  rw [BitVec.getLsbD_setWidth, BitVec.getLsbD_signExtend]
  simp [hj, hj.trans_le hw]

theorem relOperand_eq_some {w : Nat} (hw : w ≤ 20) (base dest : Addr) (off : BitVec w) :
    relOperand w base dest = some off ↔ relTarget base off = dest := by
  unfold relOperand
  constructor
  · intro h
    split at h
    · next hlands =>
      cases h
      exact hlands
    · nomatch h
  · rintro rfl
    have hoff : (relTarget base off - base).setWidth w = off := by
      rw [relTarget, BitVec.add_comm, BitVec.add_sub_cancel, setWidth_signExtend hw]
    rw [hoff, if_pos rfl]

theorem condOperand_eq_some (base dest : Addr) (off : BitVec 8) :
    condOperand base dest = some off ↔ relTarget base off = dest ∧ off ≠ 0#8 := by
  rw [← relOperand_eq_some (by decide)]
  unfold condOperand
  cases relOperand 8 base dest with
  | none => simp
  | some off' =>
    by_cases hzero : off' = 0#8
    · simp only [hzero, if_true, Option.some.injEq]
      exact iff_of_false nofun fun ⟨heq, hne⟩ => hne heq.symm
    · simp only [hzero, if_false, Option.some.injEq]
      exact ⟨fun heq => ⟨heq, heq ▸ hzero⟩, And.left⟩

/-! ## Reach -/

/-- The distances in reach are the values of the offsets (R110). -/
theorem inReach_iff {w : Nat} (hw : 0 < w) (k : Nat) (zeroAllowed : Bool) (pc dest : Addr) :
    inReach w k zeroAllowed pc dest ↔
      ∃ off : BitVec w, target pc k (sext w off.toNat) = dest ∧ (zeroAllowed = true ∨ off ≠ 0) := by
  constructor
  · rintro ⟨r, hlow, hhigh, hzero, rfl⟩
    have hvalue : (BitVec.ofInt w r).toInt = r := BitVec.toInt_ofInt_eq_self hw hlow (by omega)
    refine ⟨BitVec.ofInt w r, by rw [sext_toNat hw, hvalue], hzero.imp_right fun hr heq => hr ?_⟩
    rw [← hvalue, heq]
    exact BitVec.toInt_zero
  · rintro ⟨off, rfl, hzero⟩
    have hlow := BitVec.le_toInt off
    have hhigh := BitVec.toInt_lt (x := off)
    refine ⟨off.toInt, hlow, by omega, hzero.imp_right fun hne heq => hne ?_, by rw [sext_toNat hw]⟩
    exact BitVec.toInt_inj.mp (heq.trans BitVec.toInt_zero.symm)

/-- An assembler's function whose operand is the offset that leads to the label assembles exactly the labels in reach. -/
theorem assembles_of_operand {w k : Nat} {α : Type} {asm : Addr → Addr → Option α} {mk : BitVec w → α}
    {zeroAllowed : Bool} (hw : 0 < w) (operand : Addr → Addr → Option (BitVec w))
    (hasm : ∀ pc dest, asm pc dest = (operand (addrPlus pc k) dest).map mk) (hmk : Function.Injective mk)
    (hoperand : ∀ base dest off,
      operand base dest = some off ↔ relTarget base off = dest ∧ (zeroAllowed = true ∨ off ≠ 0)) :
    assembles asm mk k zeroAllowed := by
  intro pc dest
  have hleads : ∀ off, operand (addrPlus pc k) dest = some off ↔
      target pc k (sext w off.toNat) = dest ∧ (zeroAllowed = true ∨ off ≠ 0) := by
    intro off
    rw [hoperand, relTarget_eq_target hw]
  rw [hasm, inReach_iff hw, Option.map_eq_none_iff, Option.eq_none_iff_forall_ne_some, not_exists]
  refine ⟨fun off => ?_, forall_congr' fun off => not_congr (hleads off)⟩
  rw [← hleads, Option.map_eq_some_iff]
  exact ⟨fun ⟨off', h, heq⟩ => hmk heq ▸ h, fun h => ⟨off, h, rfl⟩⟩

theorem assembles_rel {w k : Nat} {α : Type} {asm : Addr → Addr → Option α} {mk : BitVec w → α}
    (hw : 0 < w ∧ w ≤ 20) (hasm : ∀ pc dest, asm pc dest = (relOperand w (addrPlus pc k) dest).map mk) (hmk : Function.Injective mk) :
    assembles asm mk k true :=
  assembles_of_operand hw.1 (relOperand w) hasm hmk fun base dest off => by simp [relOperand_eq_some hw.2]

theorem assembles_cond {k : Nat} {α : Type} {asm : Addr → Addr → Option α} {mk : BitVec 8 → α}
    (hasm : ∀ pc dest, asm pc dest = (condOperand (addrPlus pc k) dest).map mk) (hmk : Function.Injective mk) :
    assembles asm mk k false :=
  assembles_of_operand (by decide) condOperand hasm hmk fun base dest off => by simp [condOperand_eq_some]

/-! ## Landing -/

/-- What a function with a relative operand assembles carries the offset that leads to the label. -/
theorem rel_of_assembled {w k : Nat} (hw : w ≤ 20) {mk : BitVec w → Instr} {pc dest : Addr} {i : Instr}
    (h : (relOperand w (addrPlus pc k) dest).map mk = some i) :
    ∃ off, i = mk off ∧ relTarget (addrPlus pc k) off = dest := by
  obtain ⟨off, hoff, rfl⟩ := Option.map_eq_some_iff.mp h
  exact ⟨off, rfl, (relOperand_eq_some hw _ _ off).mp hoff⟩

theorem cond_of_assembled {k : Nat} {α : Type} {mk : BitVec 8 → α} {pc dest : Addr} {i : α}
    (h : (condOperand (addrPlus pc k) dest).map mk = some i) :
    ∃ off, i = mk off ∧ relTarget (addrPlus pc k) off = dest ∧ off ≠ 0#8 := by
  obtain ⟨off, hoff, rfl⟩ := Option.map_eq_some_iff.mp h
  exact ⟨off, rfl, (condOperand_eq_some _ _ off).mp hoff⟩

theorem assembleGoto_lands {s : State} {dest : Addr} {i : Instr} (h : assembleGoto s.pc dest = some i) :
    i.wf = true ∧ exec i s = .next { s with pc := dest } := by
  obtain ⟨off, rfl, rfl⟩ := rel_of_assembled (by decide) h
  exact ⟨rfl, rfl⟩

theorem assembleGolong_lands {s : State} {dest : Addr} {i : Instr} (h : assembleGolong s.pc dest = some i) :
    i.wf = true ∧ exec i s = .next { s with pc := dest } := by
  obtain ⟨off, rfl, rfl⟩ := rel_of_assembled (by decide) h
  exact ⟨rfl, rfl⟩

theorem assembleGosub_lands {s : State} {dest : Addr} {i : Instr} (h : assembleGosub s.pc dest = some i) :
    i.wf = true ∧ exec i s = .next { s with pc := dest, rstk := pushed (after s.pc 4) s.rstk } := by
  obtain ⟨off, rfl, rfl⟩ := rel_of_assembled (by decide) h
  exact ⟨rfl, congrArg Host.Outcome.next (Transfers.callTo_eq_pushed 4 _ s)⟩

theorem assembleGosubl_lands {s : State} {dest : Addr} {i : Instr} (h : assembleGosubl s.pc dest = some i) :
    i.wf = true ∧ exec i s = .next { s with pc := dest, rstk := pushed (after s.pc 6) s.rstk } := by
  obtain ⟨off, rfl, rfl⟩ := rel_of_assembled (by decide) h
  exact ⟨rfl, congrArg Host.Outcome.next (Transfers.callTo_eq_pushed 6 _ s)⟩

theorem assembleGoc_lands {s : State} {dest : Addr} {i : Instr} (h : assembleGoc s.pc dest = some i) :
    i.wf = true ∧ (s.carry = true → exec i s = .next { s with pc := dest }) := by
  obtain ⟨off, rfl, rfl, hne⟩ := cond_of_assembled h
  exact ⟨decide_eq_true hne, fun hcarry => congrArg Host.Outcome.next (if_pos hcarry)⟩

theorem assembleGonc_lands {s : State} {dest : Addr} {i : Instr} (h : assembleGonc s.pc dest = some i) :
    i.wf = true ∧ (s.carry = false → exec i s = .next { s with pc := dest }) := by
  obtain ⟨off, rfl, rfl, hne⟩ := cond_of_assembled h
  exact ⟨decide_eq_true hne, fun hcarry => congrArg Host.Outcome.next (if_neg (Bool.eq_false_iff.mp hcarry))⟩

/-- A test that leaves CARRY 1 has taken its suffix (`exec_test_afterTest`), whose offset leads to the label. -/
theorem assembleGoyes_lands {s : State} {dest : Addr} {q : Nat} {y : Suffix} (h : assembleGoyes q s.pc dest = some y) :
    y.wf = true ∧
    ∀ (i : Instr) (t : State), i.length = q + 2 → testSuffix i = some y → exec i s = .next t → t.carry = true →
      t = { s with carry := true, pc := dest } := by
  obtain ⟨off, rfl, rfl, hne⟩ := cond_of_assembled h
  refine ⟨decide_eq_true hne, fun i t hlength hy hexec hcarry => ?_⟩
  obtain ⟨q', hlength', ht⟩ := Frames.exec_test_afterTest hy hexec
  obtain rfl : q' = q := by omega
  rw [hcarry] at ht
  rw [ht, relTarget_eq_target (by decide)]
  rfl

/-- Settles O30: reach and rejection by `assembles_rel` and `assembles_cond`, landing form by form. -/
theorem assembledJumpsLandOnTheirLabel : Obligations.AssembledJumpsLandOnTheirLabel := by
  refine ⟨⟨?_, ?_, ?_, ?_, ?_, ?_, fun q => ?_⟩, fun s dest i => ?_, fun s dest q y => assembleGoyes_lands⟩
  · exact assembles_rel (by decide) (fun _ _ => rfl) fun _ _ => Instr.goto.inj
  · exact assembles_rel (by decide) (fun _ _ => rfl) fun _ _ => Instr.golong.inj
  · exact assembles_rel (by decide) (fun _ _ => rfl) fun _ _ => Instr.gosub.inj
  · exact assembles_rel (by decide) (fun _ _ => rfl) fun _ _ => Instr.gosubl.inj
  · exact assembles_cond (fun _ _ => rfl) fun _ _ => Instr.goc.inj
  · exact assembles_cond (fun _ _ => rfl) fun _ _ => Instr.gonc.inj
  · exact assembles_cond (fun _ _ => rfl) fun _ _ => Suffix.goyes.inj
  · exact ⟨fun h => h.elim assembleGoto_lands assembleGolong_lands, assembleGosub_lands, assembleGosubl_lands,
      assembleGoc_lands, assembleGonc_lands⟩

end Sys2Proof.Assembler
end

section
/-!
PROOF. The tests (42_tests_registers.md, 43_tests_p_st_hst_bits.md). Every test is `runTest` with its own condition, so a row
needs only that the model's condition is the one of the statement; its cycles follow the CARRY it leaves
(70_reset_and_hazards.md R310, R311).
-/

namespace Sys2Proof.Conditions
open Sys2Proof Sys2Proof.Machine Sys2Proof.Claims Sys2Proof.Vocabulary Sys2Proof.Outcomes

/-- A row that runs the test with a condition, whatever the words in which the condition is stated. -/
theorem next_runTest {q : Nat} {cond cond' : Bool} (y : Suffix) (s : State) (h : cond = cond') :
    Host.Outcome.next (φ := Fault) (ρ := Refusal) (runTest q cond y s) = .next (afterTest s q cond' y) := by
  rw [runTest_eq_afterTest, h]

/-! ## Register tests -/

theorem fieldOf_zeroReg (p : Nibble) (f : Field) (s : State) : fieldOf p f (zeroReg s) = 0 := by
  simp [fieldOf, slice, zeroReg]

/-- The second operand of a test, as a register of the statements. -/
def argReg : TestArg → State → Reg64
  | .reg r => (regValue · r)
  | .zero => zeroReg

theorem argValue_eq_fieldOf (s : State) (f : Field) (z : TestArg) : argValue s f z = fieldOf s.p f (argReg z s) := by
  cases z with
  | reg r => exact fieldValue_eq_fieldOf s f r
  | zero => exact (fieldOf_zeroReg s.p f s).symm

/-- Field A needs no register P: it is nibbles 4 to 0. -/
theorem comparesFields_of_registerTest {onF : Field → Suffix → Instr} {onA : Suffix → Instr} (c : Cmp) (x : WReg)
    (z : TestArg) (hF : ∀ f y s, exec (onF f y) s = .next (registerTest c x z f y s))
    (hA : ∀ y s, exec (onA y) s = .next (registerTest c x z .a y s)) :
    comparesFields onF onA (cmpHolds c) (regValue · x) (argReg z) := by
  have hcond : ∀ f s, cmpHolds c (fieldValue s f x) (argValue s f z) =
      cmpHolds c (fieldOf s.p f (regValue s x)) (fieldOf s.p f (argReg z s)) := fun f s => by
    rw [fieldValue_eq_fieldOf, argValue_eq_fieldOf]
  exact ⟨fun f y s => (hF f y s).trans (next_runTest y s (hcond f s)),
    fun y s => (hA y s).trans (next_runTest y s (hcond .a s))⟩

/-- Settles O40: eight rows of `comparesFields_of_registerTest`. -/
theorem equalityTestsCompareOneField : Obligations.EqualityTestsCompareOneField :=
  ⟨comparesFields_of_registerTest .eq .A (.reg .B) (fun _ _ _ => rfl) (fun _ _ => rfl),
    comparesFields_of_registerTest .eq .B (.reg .C) (fun _ _ _ => rfl) (fun _ _ => rfl),
    comparesFields_of_registerTest .eq .A (.reg .C) (fun _ _ _ => rfl) (fun _ _ => rfl),
    comparesFields_of_registerTest .eq .C (.reg .D) (fun _ _ _ => rfl) (fun _ _ => rfl),
    comparesFields_of_registerTest .ne .A (.reg .B) (fun _ _ _ => rfl) (fun _ _ => rfl),
    comparesFields_of_registerTest .ne .B (.reg .C) (fun _ _ _ => rfl) (fun _ _ => rfl),
    comparesFields_of_registerTest .ne .A (.reg .C) (fun _ _ _ => rfl) (fun _ _ => rfl),
    comparesFields_of_registerTest .ne .C (.reg .D) (fun _ _ _ => rfl) (fun _ _ => rfl)⟩

/-- Settles O41: eight rows of `comparesFields_of_registerTest`, the second operand the constant 0. -/
theorem zeroTestsCompareOneFieldWithZero : Obligations.ZeroTestsCompareOneFieldWithZero :=
  ⟨comparesFields_of_registerTest .eq .A .zero (fun _ _ _ => rfl) (fun _ _ => rfl),
    comparesFields_of_registerTest .eq .B .zero (fun _ _ _ => rfl) (fun _ _ => rfl),
    comparesFields_of_registerTest .eq .C .zero (fun _ _ _ => rfl) (fun _ _ => rfl),
    comparesFields_of_registerTest .eq .D .zero (fun _ _ _ => rfl) (fun _ _ => rfl),
    comparesFields_of_registerTest .ne .A .zero (fun _ _ _ => rfl) (fun _ _ => rfl),
    comparesFields_of_registerTest .ne .B .zero (fun _ _ _ => rfl) (fun _ _ => rfl),
    comparesFields_of_registerTest .ne .C .zero (fun _ _ _ => rfl) (fun _ _ => rfl),
    comparesFields_of_registerTest .ne .D .zero (fun _ _ _ => rfl) (fun _ _ => rfl)⟩

/-- Settles O42: eight rows of `comparesFields_of_registerTest`. -/
theorem strictOrderTestsCompareUnsigned : Obligations.StrictOrderTestsCompareUnsigned :=
  ⟨comparesFields_of_registerTest .gt .A (.reg .B) (fun _ _ _ => rfl) (fun _ _ => rfl),
    comparesFields_of_registerTest .gt .B (.reg .C) (fun _ _ _ => rfl) (fun _ _ => rfl),
    comparesFields_of_registerTest .gt .C (.reg .A) (fun _ _ _ => rfl) (fun _ _ => rfl),
    comparesFields_of_registerTest .gt .D (.reg .C) (fun _ _ _ => rfl) (fun _ _ => rfl),
    comparesFields_of_registerTest .lt .A (.reg .B) (fun _ _ _ => rfl) (fun _ _ => rfl),
    comparesFields_of_registerTest .lt .B (.reg .C) (fun _ _ _ => rfl) (fun _ _ => rfl),
    comparesFields_of_registerTest .lt .C (.reg .A) (fun _ _ _ => rfl) (fun _ _ => rfl),
    comparesFields_of_registerTest .lt .D (.reg .C) (fun _ _ _ => rfl) (fun _ _ => rfl)⟩

/-- Settles O43: eight rows of `comparesFields_of_registerTest`. -/
theorem weakOrderTestsCompareUnsigned : Obligations.WeakOrderTestsCompareUnsigned :=
  ⟨comparesFields_of_registerTest .ge .A (.reg .B) (fun _ _ _ => rfl) (fun _ _ => rfl),
    comparesFields_of_registerTest .ge .B (.reg .C) (fun _ _ _ => rfl) (fun _ _ => rfl),
    comparesFields_of_registerTest .ge .C (.reg .A) (fun _ _ _ => rfl) (fun _ _ => rfl),
    comparesFields_of_registerTest .ge .D (.reg .C) (fun _ _ _ => rfl) (fun _ _ => rfl),
    comparesFields_of_registerTest .le .A (.reg .B) (fun _ _ _ => rfl) (fun _ _ => rfl),
    comparesFields_of_registerTest .le .B (.reg .C) (fun _ _ _ => rfl) (fun _ _ => rfl),
    comparesFields_of_registerTest .le .C (.reg .A) (fun _ _ _ => rfl) (fun _ _ => rfl),
    comparesFields_of_registerTest .le .D (.reg .C) (fun _ _ _ => rfl) (fun _ _ => rfl)⟩

/-! ## P, flags and register bits -/

/-- Settles O44: two digits are equal exactly when their numbers are. -/
theorem pointerTestsCompareP : Obligations.PointerTestsCompareP := by
  intro n y s
  have heq : (s.p = n) = (s.p.toNat = n.toNat) := propext BitVec.toNat_inj.symm
  exact ⟨next_runTest y s (by simp only [heq]), next_runTest y s (by simp only [heq, ne_eq])⟩

theorem bitIsSet_eq_decide {w : Nat} (x : BitVec w) (n : Nibble) :
    bitIsSet x n = decide (x.toNat / 2 ^ n.toNat % 2 = 1) :=
  Nat.testBit_eq_decide_div_mod_eq

theorem not_bitIsSet_eq_decide {w : Nat} (x : BitVec w) (n : Nibble) :
    (!bitIsSet x n) = decide (x.toNat / 2 ^ n.toNat % 2 = 0) := by
  rw [bitIsSet_eq_decide, ← decide_not]
  exact decide_eq_decide.mpr Nat.mod_two_not_eq_one

/-- Settles O45: flag `n` is binary digit `n` of ST. -/
theorem flagTestsReadOneFlag : Obligations.FlagTestsReadOneFlag :=
  fun n y s => ⟨next_runTest y s (not_bitIsSet_eq_decide s.st n), next_runTest y s (bitIsSet_eq_decide s.st n)⟩

/-- A test of a register bit, behind level 2, with its suffix at nibble 5. -/
theorem testsRegBit_of_exec {mk : Nibble → Suffix → Instr} {b : Bool} {get : State → Reg64}
    (cond : Nibble → State → Bool)
    (hexec : ∀ n y s, exec (mk n y) s = whenLevel 2 s (.next (runTest 5 (cond n s) y s)))
    (hcond : ∀ n s, cond n s = decide ((get s).toNat / 2 ^ n.toNat % 2 = b.toNat)) : testsRegBit mk b get :=
  fun n y s hlevel =>
    (hexec n y s).trans ((MemoryReads.whenLevel_of_le hlevel _).trans (next_runTest y s (hcond n s)))

/-- Settles O48: the four rows, each with its bit as a binary digit. -/
theorem registerBitTestsReadOneBit : Obligations.RegisterBitTestsReadOneBit :=
  ⟨testsRegBit_of_exec (fun n s => !bitIsSet s.a n) (fun _ _ _ => rfl) fun n s => not_bitIsSet_eq_decide s.a n,
    testsRegBit_of_exec (fun n s => bitIsSet s.a n) (fun _ _ _ => rfl) fun n s => bitIsSet_eq_decide s.a n,
    testsRegBit_of_exec (fun n s => !bitIsSet s.c n) (fun _ _ _ => rfl) fun n s => not_bitIsSet_eq_decide s.c n,
    testsRegBit_of_exec (fun n s => bitIsSet s.c n) (fun _ _ _ => rfl) fun n s => bitIsSet_eq_decide s.c n⟩

/-! ## HST -/

/-- A mask is clear in HST when each of its bits is (43_tests_p_st_hst_bits.md R219). -/
theorem maskIsClear_eq_allClear (hst n : Nibble) : maskIsClear hst n = allClear hst n := by
  refine decide_eq_decide.mpr ⟨fun h j hn => ?_, fun h => BitVec.eq_of_getLsbD_eq fun j hj => ?_⟩
  · have hbit : (hst.getLsbD j && n.getLsbD j) = false := by rw [← BitVec.getLsbD_and, h, BitVec.getLsbD_zero]
    rwa [hn, Bool.and_true] at hbit
  · rw [BitVec.getLsbD_and, BitVec.getLsbD_zero]
    cases hn : n.getLsbD j with
    | false => exact Bool.and_false _
    | true => rw [h ⟨j, hj⟩ hn, Bool.false_and]

/-- A mask of one bit is clear when that bit is. -/
theorem maskIsClear_single {n : Nibble} (k : Fin 4) (hn : ∀ j : Fin 4, n.getLsbD j = decide (j = k)) (hst : Nibble) :
    maskIsClear hst n = !hst.getLsbD k := by
  rw [maskIsClear_eq_allClear, allClear]
  simp only [hn, decide_eq_true_eq, forall_eq]
  cases hst.getLsbD k <;> rfl

/-- Settles O46: the masks of XM, SB, SR and MP are one bit each (10_state.md R30). -/
theorem hstTestsReadOneBit : Obligations.HstTestsReadOneBit :=
  fun y s => ⟨next_runTest y s (maskIsClear_single 0 (by decide) s.hst),
    next_runTest y s (maskIsClear_single 1 (by decide) s.hst),
    next_runTest y s (maskIsClear_single 2 (by decide) s.hst),
    next_runTest y s (maskIsClear_single 3 (by decide) s.hst)⟩

theorem whenMask_of_admitted {named : Bool} {s : State} (h : s.cfg.hsMaskGeneral = true ∨ named = true) (n : Nibble)
    (t : Result) : whenMask named n s t = t :=
  if_pos (Bool.or_eq_true_iff.mpr h)

theorem whenMask_of_not_admitted {named : Bool} {s : State} (hgeneral : s.cfg.hsMaskGeneral = false)
    (hnamed : ¬ named = true) (n : Nibble) (t : Result) : whenMask named n s t = .refused (.maskNotAdmitted n) :=
  if_neg (by simpa [hgeneral] using hnamed)

/-- Settles O47: the row is behind its mask, and its condition is `maskIsClear_eq_allClear`. -/
theorem generalHstTestReadsTheMask : Obligations.GeneralHstTestReadsTheMask := by
  intro n y s
  rw [← namedTest_iff]
  exact ⟨fun hadmitted =>
      (whenMask_of_admitted hadmitted n _).trans (next_runTest y s (maskIsClear_eq_allClear s.hst n)),
    fun hgeneral hnamed => whenMask_of_not_admitted hgeneral hnamed n _⟩

/-! ## Cycles -/

theorem runTest_carry (q : Nat) (cond : Bool) (y : Suffix) (s : State) : (runTest q cond y s).carry = cond := by
  rw [runTest_eq_afterTest, Frames.afterTest_carry]

/-- What a test leaves in CARRY is the condition that its cycles depend on. -/
theorem cycles_of_runTest (q : Nat) (cond : Bool) (y : Suffix) (s : State) (k l : Nat) :
    some (if cond then k else l) = some (if (runTest q cond y s).carry = true then k else l) := by
  rw [runTest_carry]

/-- A register test adds one cycle for each nibble of the field (R311). -/
theorem cycles_of_registerTest (c : Cmp) (x : WReg) (z : TestArg) (f : Field) (y : Suffix) (s : State) :
    some (fieldTestCycles c x z f s) =
      some (if (registerTest c x z f y s).carry = true then 13 + (hi s.p f - lo s.p f + 1)
        else 6 + (hi s.p f - lo s.p f + 1)) := by
  rw [registerTest, ← cycles_of_runTest, fieldTestCycles, fieldDigits_eq]
  split <;> rfl

/-- Settles O49: what has a known count of both is a test of P, ST or HST (`cycles_of_runTest`) or a register test
(`cycles_of_registerTest`). -/
theorem testCyclesFollowTheResult : Obligations.TestCyclesFollowTheResult := by
  intro i s t whenTrue whenFalse hcost h
  cases i with
  | rtnsxm | rtn | rtnsc | rtncc | clrst | cFromSt | stFromC | cstex | pInc | pDec | rti | pSet | goc | rtnc | gonc
  | rtnnc | goto | gosub | cAddP1 | cFromP | pFromC | cpex | abit0 | abit1 | tstAbit0 | tstAbit1 | cbit0 | cbit1
  | tstCbit0 | tstCbit1 | pcIndA | pcIndC | pcFromA | pcFromC | apcex | cpcex | hs0 | xm0 | sb0 | sr0 | mp0 | clrhs
  | st0 | st1 | golong | govlng | gosubl | gosbvl | goyes | rtnyes => nomatch hcost
  | tstHs0 n y =>
    obtain ⟨_, ⟨⟩⟩ := (whenMask_next s _ n _ t).mp h
    cases hcost
    exact cycles_of_runTest 3 _ y s 13 6
  | tstXm0 | tstSb0 | tstSr0 | tstMp0 | tstPNe | tstPEq =>
    cases h
    cases hcost
    exact cycles_of_runTest 3 _ _ s 13 6
  | tstSt0 | tstSt1 =>
    cases h
    cases hcost
    exact cycles_of_runTest 3 _ _ s 14 7
  | _ =>
    cases h
    cases hcost
    exact cycles_of_registerTest _ _ _ _ _ s

end Sys2Proof.Conditions
end

section
/-!
PROOF. The instructions that write P, a register or a status word (44_pointer.md, 45_bits.md, 46_status.md): what every digit or bit
of the written word is, and then the row: the word written, and the PC moved past it.
-/

namespace Sys2Proof.RegisterWrites
open Sys2Proof Sys2Proof.Machine Sys2Proof.Claims Sys2Proof.Returns Sys2Proof.StatusClears Sys2Proof.Vocabulary
open Sys2Proof.Outcomes Sys2Proof.Conditions

/-- Every row here ends by moving past the instruction. -/
theorem next_advance (s : State) (k : Nat) :
    Host.Outcome.next (φ := Fault) (ρ := Refusal) (s.advance k) = .next { s with pc := after s.pc k } :=
  congrArg Host.Outcome.next (advance_eq_after s k)

/-! ## P and C+P+1 -/

theorem carryOfInc_eq (p : Nibble) : carryOfInc p = decide (p.toNat = 15) :=
  decide_eq_decide.mpr (BitVec.toNat_inj (y := 15#4)).symm

theorem carryOfDec_eq (p : Nibble) : carryOfDec p = decide (p.toNat = 0) :=
  decide_eq_decide.mpr (BitVec.toNat_inj (y := 0#4)).symm

theorem add_one_eq (p : Nibble) : p + 1#4 = BitVec.ofNat 4 ((p.toNat + 1) % 16) := by
  apply BitVec.eq_of_toNat_eq
  simp [BitVec.toNat_add]

theorem sub_one_eq (p : Nibble) : p - 1#4 = BitVec.ofNat 4 ((p.toNat + 15) % 16) := by
  apply BitVec.eq_of_toNat_eq
  simp [BitVec.toNat_sub, Nat.add_comm]

/-- Settles O51: the count modulo 16 and the carry on the wrap, as numbers. -/
theorem pIncrementAndDecrementWrapWithCarry : Obligations.PIncrementAndDecrementWrapWithCarry := by
  intro s
  rw [← carryOfInc_eq, ← carryOfDec_eq, ← add_one_eq, ← sub_one_eq]
  exact ⟨next_advance ((s.setCarry (carryOfInc s.p)).setP (s.p + 1#4)) 2,
    next_advance ((s.setCarry (carryOfDec s.p)).setP (s.p - 1#4)) 2⟩

/-- Settles O52: the sum is that of the statement (`slice_fieldA`), and only field A of C is written. -/
theorem cAddP1AddsInFieldA : Obligations.CAddP1AddsInFieldA := by
  intro s
  rw [slice_fieldA]
  refine ⟨setFieldA s.c (BitVec.ofNat 20 (sumCP1 (fieldA s.c) s.p)), next_advance _ 3, ?_,
    slice_setFieldA_rest s.c _⟩
  rw [slice_setFieldA_same, BitVec.toNat_ofNat]
  rfl

/-! ## One bit -/

theorem bitMask_getLsbD (w : Nat) (n : Nibble) {j : Nat} (hj : j < w) :
    (bitMask w n).getLsbD j = decide (j = n.toNat) := by
  rw [bitMask, ← BitVec.twoPow_eq, BitVec.getLsbD_twoPow]
  by_cases heq : j = n.toNat
  · subst heq
    simp [hj]
  · simp [heq, Ne.symm heq]

theorem clearBit_getLsbD {w : Nat} (x : BitVec w) (n : Nibble) {j : Nat} (hj : j < w) :
    (clearBit x n).getLsbD j = if j = n.toNat then false else x.getLsbD j := by
  rw [clearBit, BitVec.getLsbD_and, BitVec.getLsbD_not, bitMask_getLsbD w n hj]
  by_cases heq : j = n.toNat <;> simp [heq, hj]

theorem setBit_getLsbD {w : Nat} (x : BitVec w) (n : Nibble) {j : Nat} (hj : j < w) :
    (setBit x n).getLsbD j = if j = n.toNat then true else x.getLsbD j := by
  rw [setBit, BitVec.getLsbD_or, bitMask_getLsbD w n hj]
  by_cases heq : j = n.toNat <;> simp [heq]

/-- A row that writes a register, behind level 2, and moves past its five nibbles. -/
theorem writesRegBit_of_exec {mk : Nibble → Instr} {b : Bool} {get : State → Reg64} {put : State → Reg64 → State}
    (new : Reg64 → Nibble → Reg64)
    (hexec : ∀ n s, exec (mk n) s = whenLevel 2 s (.next ((put s (new (get s) n)).advance 5)))
    (hpc : ∀ s v, (put s v).pc = s.pc)
    (hnew : ∀ x n, ∀ j < 64, (new x n).getLsbD j = if j = n.toNat then b else x.getLsbD j) :
    writesRegBit mk b get put := by
  refine fun n s hlevel => ⟨new (get s) n, ?_, hnew (get s) n⟩
  rw [hexec, MemoryReads.whenLevel_of_le hlevel, next_advance, hpc]

/-- Settles O55: the four rows write `clearBit` or `setBit` of the register. -/
theorem bitInstructionsWriteOneBit : Obligations.BitInstructionsWriteOneBit :=
  ⟨writesRegBit_of_exec clearBit (fun _ _ => rfl) (fun _ _ => rfl) fun x n _ => clearBit_getLsbD x n,
    writesRegBit_of_exec setBit (fun _ _ => rfl) (fun _ _ => rfl) fun x n _ => setBit_getLsbD x n,
    writesRegBit_of_exec clearBit (fun _ _ => rfl) (fun _ _ => rfl) fun x n _ => clearBit_getLsbD x n,
    writesRegBit_of_exec setBit (fun _ _ => rfl) (fun _ _ => rfl) fun x n _ => setBit_getLsbD x n⟩

/-- Settles O56: `84n` is `clearBit` of ST and `85n` is `setBit` (conflict C2). -/
theorem stZeroAndStOneWriteOneFlag : Obligations.StZeroAndStOneWriteOneFlag := by
  intro n
  have encoding0 : encodedAs (.st0 n) [8#4, 4#4, n] := encodedAs_of_decode rfl fun _ _ => rfl
  have cost0 : levelZeroTaking (.st0 n) 4 := ⟨rfl, fun _ => rfl⟩
  have encoding1 : encodedAs (.st1 n) [8#4, 5#4, n] := encodedAs_of_decode rfl fun _ _ => rfl
  have cost1 : levelZeroTaking (.st1 n) 4 := ⟨rfl, fun _ => rfl⟩
  exact ⟨encoding0, cost0, encoding1, cost1,
    fun s => ⟨clearBit s.st n, next_advance (s.setSt (clearBit s.st n)) 3, fun _ hj => clearBit_getLsbD s.st n hj⟩,
    fun s => ⟨setBit s.st n, next_advance (s.setSt (setBit s.st n)) 3, fun _ hj => setBit_getLsbD s.st n hj⟩⟩

/-! ## ST{R} and field X of C -/

theorem stR_getLsbD (st : BitVec 16) {j : Nat} (hj : j < 12) : (stR st).getLsbD j = st.getLsbD j := by
  simp [stR, hj]

theorem fieldX_getLsbD (x : Reg64) {j : Nat} (hj : j < 12) : (fieldX x).getLsbD j = x.getLsbD j := by
  simp [fieldX, getNibs, hj]

/-- Field X of C is nibbles 2 to 0, its bits 11 to 0 (10_state.md R22). -/
theorem setFieldX_stR_getLsbD (c : Reg64) (st : BitVec 16) {j : Nat} (hj : j < 64) :
    (setFieldX c (stR st)).getLsbD j = if j < 12 then st.getLsbD j else c.getLsbD j := by
  rw [setFieldX, setNibs_getLsbD c 0 3 (stR st) j hj]
  by_cases hlow : j < 12
  · rw [if_pos hlow, if_pos (by omega)]
    exact stR_getLsbD st hlow
  · rw [if_neg hlow, if_neg (by omega)]

theorem setStR_fieldX_getLsbD (st : BitVec 16) (c : Reg64) {j : Nat} (hj : j < 16) :
    (setStR st (fieldX c)).getLsbD j = if j < 12 then c.getLsbD j else st.getLsbD j := by
  rw [setStR_getLsbD st (fieldX c) hj]
  by_cases hlow : j < 12
  · rw [if_pos hlow, if_pos hlow, fieldX_getLsbD c hlow]
  · rw [if_neg hlow, if_neg hlow]

/-- Settles O57: each of the three writes C, ST or both from the other as it was. -/
theorem flagTransfersMoveTwelveFlags : Obligations.FlagTransfersMoveTwelveFlags := by
  refine ⟨fun s => ⟨setFieldX s.c (stR s.st), setStR s.st (fieldX s.c), ?_, ?_, ?_⟩,
    fun s => ⟨setFieldX s.c (stR s.st), ?_, ?_⟩, fun s => ⟨setStR s.st (fieldX s.c), ?_, ?_⟩⟩
  · exact next_advance ((s.setC (setFieldX s.c (stR s.st))).setSt (setStR s.st (fieldX s.c))) 2
  · exact fun _ hj => setFieldX_stR_getLsbD s.c s.st hj
  · exact fun _ hj => setStR_fieldX_getLsbD s.st s.c hj
  · exact next_advance (s.setC (setFieldX s.c (stR s.st))) 2
  · exact fun _ hj => setFieldX_stR_getLsbD s.c s.st hj
  · exact next_advance (s.setSt (setStR s.st (fieldX s.c))) 2
  · exact fun _ hj => setStR_fieldX_getLsbD s.st s.c hj

/-! ## HST under a mask -/

/-- Settles O60: behind its mask, the row is the clear of the mask's bits. -/
theorem generalHstClearClearsTheMask : Obligations.GeneralHstClearClearsTheMask := by
  intro n s
  rw [← namedClear_iff]
  refine ⟨fun hadmitted => ⟨clearMask s.hst n, ?_, fun _ hj => clearMask_getLsbD s.hst n hj⟩,
    fun hgeneral hnamed => whenMask_of_not_admitted hgeneral hnamed n _⟩
  exact (whenMask_of_admitted hadmitted n _).trans (next_advance (s.setHst (clearMask s.hst n)) 3)

end Sys2Proof.RegisterWrites
end
